-- ==== Sys2Proof/Word.lean ====
section
/-!
DEFINITION. The value types of the block (00_scope.md R11, R13, R14, R18): bytes, 3-bit sequence
numbers, 32-bit times and counters, the 16-bit transport budget and the 16-bit CRC accumulator.
-/

namespace Sys2Proof

/-- A byte: 8 bits (R11). -/
abbrev Byte := BitVec 8

/-- A sequence number: 3 bits, all arithmetic modulo 8 (R13, R24). -/
abbrev Seq := BitVec 3

/-- A time in milliseconds: `TIME_BITS` = 32 bits, modular (R8, R14). -/
abbrev Time := BitVec 32

/-- The transport budget of a command: 16 bits (R87). -/
abbrev Space := BitVec 16

/-- A statistics counter: `COUNTER_BITS` = 32 bits, wrapping (R8, R37). -/
abbrev Counter := BitVec 32

/-- The CRC-16 accumulator (R110). -/
abbrev Crc := BitVec 16

end Sys2Proof
end

