-- ==== Sys2Proof/Config.lean ====
section
/-!
DEFINITION. The implementation parameters of 00_scope.md R8: the OPEN ones as the fields of `Config`,
which the model takes as an argument, and the ones the spec fixes as constants. A configuration that
breaks the constraints of R8 and R9 is not `valid`; the step refuses it (93 U12).
-/

namespace Sys2Proof

/-- The OPEN parameters of R8, fixed at construction and never changed (R330, R38). -/
structure Config where
  /-- `TX_K`: the sliding-window size. -/
  txK : Nat
  /-- `MIN_DATA_LEN`: least DATA payload length in bytes. -/
  minDataLen : Nat
  /-- `MAX_DATA_LEN`: greatest DATA payload length in bytes. -/
  maxDataLen : Nat
  /-- `MAX_FRAME_LEN`: greatest decoded frame length (control + data + 2 CRC bytes). -/
  maxFrameLen : Nat
  /-- `TX_POOL_SIZE`: number of transmit buffers. -/
  txPoolSize : Nat
  /-- `RX_POOL_SIZE`: number of receive buffers. -/
  rxPoolSize : Nat
  /-- `NR_REFRESH`: period in ms at which a standing not-ready condition is sent again. -/
  nrRefresh : Nat
  /-- `HW_FLOW_CONTROL`: the transport uses hardware flow control (R38). -/
  hwFlowControl : Bool
deriving DecidableEq, Repr

/-- `RAW_MAX = 2 * MAX_FRAME_LEN`: capacity of the deframer's partial-frame register (R8, R143). -/
def Config.rawMax (c : Config) : Nat := 2 * c.maxFrameLen

/-- `BUF_SIZE = MAX_DATA_LEN`: bytes in one pool buffer (R8). -/
def Config.bufSize (c : Config) : Nat := c.maxDataLen

/-- The test configuration `TC` of R10, the spec's own choice of the OPEN parameters. -/
def Config.tc : Config where
  txK := 3
  minDataLen := 3
  maxDataLen := 128
  maxFrameLen := 131
  txPoolSize := 4
  rxPoolSize := 16
  nrRefresh := 480
  hwFlowControl := false

/-- `MIN_FRAME_LEN`: least decoded frame length, control and two CRC bytes (R8). -/
def minFrameLen : Nat := 3

/-- `RX_LOW_WATERMARK` (R8, R290). -/
def rxLowWatermark : Nat := 8

/-- `RX_HIGH_WATERMARK` (R8, R290). -/
def rxHighWatermark : Nat := 12

/-- `ACK_TIME_MIN` in ms (R8). -/
def ackTimeMin : Nat := 400

/-- `ACK_TIME_MAX` in ms (R8). -/
def ackTimeMax : Nat := 2400

/-- `ACK_TIME_INIT` in ms (R8). -/
def ackTimeInit : Nat := 800

/-- `MAX_TIMEOUTS`: consecutive ACK timeouts that are fatal (R8). -/
def maxTimeouts : Nat := 6

/-- `START_TIMEOUT` in ms (R8, R240). -/
def startTimeout : Nat := 2500

/-- `ASH_VERSION`: the protocol version accepted in RSTACK (R8, R268). -/
def ashVersion : Byte := 2#8

/-- `RESET_REASON_SOFTWARE`: the RSTACK reset reason that connects (R8, R269). -/
def resetReasonSoftware : Byte := 0x0B#8

/-- `CRC_POLY` (R8, R110). -/
def crcPoly : Crc := 0x1021#16

/-- `CRC_INIT` (R8, R111). -/
def crcInit : Crc := 0xFFFF#16

/-- `LFSR_POLY` (R8, R116). -/
def lfsrPoly : Byte := 0xB8#8

/-- `LFSR_SEED` (R8, R117). -/
def lfsrSeed : Byte := 0x42#8

end Sys2Proof
end

