-- ==== Sys2Proof/Machine/Codec.lean ====
section
/-!
DEFINITION. The byte codec (40_codec.md) and the deframer (41_deframer.md): the CRC-16 generator, the LFSR
randomizer, the byte-stuffer, the decoder and the cutting of a chunk into raw frames. Pure functions;
the CRC accumulator, the LFSR register and the decoder's flags are their arguments (R22).
-/

namespace Sys2Proof.Machine

/-! ### Reserved bytes (R119) -/

/-- FLAG 0x7E (R119). -/
def flagByte : Byte := 0x7E#8
/-- ESCAPE 0x7D (R119). -/
def escapeByte : Byte := 0x7D#8
/-- CANCEL 0x1A (R119). -/
def cancelByte : Byte := 0x1A#8
/-- SUBSTITUTE 0x18 (R119). -/
def substituteByte : Byte := 0x18#8
/-- XON 0x11 (R119). -/
def xonByte : Byte := 0x11#8
/-- XOFF 0x13 (R119). -/
def xoffByte : Byte := 0x13#8
/-- The escape XOR mask 0x20 (R119). -/
def escapeMask : Byte := 0x20#8

/-- The reserved set `RES` (R119). -/
def isReserved (b : Byte) : Bool :=
  b == flagByte || b == escapeByte || b == cancelByte || b == substituteByte || b == xonByte || b == xoffByte

/-! ### CRC-16 (R110 to R115) -/

/-- One of the eight shifts of the CRC update (R110). -/
def crcShift (crc : Crc) : Crc :=
  if crc.getLsbD 15 then (crc <<< 1) ^^^ crcPoly else crc <<< 1

/-- `crcShift` repeated `n` times. -/
def crcShifts : Nat → Crc → Crc
  | 0, crc => crc
  | n + 1, crc => crcShifts n (crcShift crc)

/-- CRC update step, most-significant bit first, not reflected, no final exclusive-or (R110). -/
def crcUpdate (crc : Crc) (b : Byte) : Crc :=
  crcShifts 8 (crc ^^^ (b.setWidth 16 <<< 8))

/-- CRC of a byte string (R111). -/
def crc16 (bytes : List Byte) : Crc := bytes.foldl crcUpdate crcInit

/-- The two CRC bytes, high byte first (R112). -/
def crcBytes (crc : Crc) : List Byte := [crc.extractLsb' 8 8, crc.extractLsb' 0 8]

/-- CRC verification of a decoded frame against its last two bytes (R114). -/
def crcOk (frame : List Byte) : Bool :=
  frame.drop (frame.length - 2) == crcBytes (crc16 (frame.take (frame.length - 2)))

/-- Table entry of the table-driven form (R113). -/
def crcTable (i : Byte) : Crc := crcUpdate 0#16 i

/-! ### LFSR randomizer (R116 to R118) -/

/-- LFSR step, shifting right (R116). -/
def lfsrNext (r : Byte) : Byte :=
  if r.getLsbD 0 then (r >>> 1) ^^^ lfsrPoly else r >>> 1

/-- The register after `n` steps from the seed. -/
def lfsrAfter : Nat → Byte
  | 0 => lfsrSeed
  | n + 1 => lfsrNext (lfsrAfter n)

/-- Randomize from a register value: each byte is XORed with the register, which then advances (R117). -/
def randomizeFrom : Byte → List Byte → List Byte
  | _, [] => []
  | r, b :: bs => (b ^^^ r) :: randomizeFrom (lfsrNext r) bs

/-- Randomize a payload; the register is seeded anew and the first byte uses the seed itself (R117). -/
def randomize (d : List Byte) : List Byte := randomizeFrom lfsrSeed d

/-! ### Byte-stuffer (R119 to R122) -/

/-- Stuff one byte (R120). -/
def stuff (b : Byte) : List Byte :=
  if isReserved b then [escapeByte, b ^^^ escapeMask] else [b]

/-- Stuff a byte string. -/
def stuffAll : List Byte → List Byte
  | [] => []
  | b :: bs => stuff b ++ stuffAll bs

/-- The decoded frame `F = [c] ++ d ++ [crcHi, crcLo]` (R86 step 1). -/
def decodedFrame (c : Byte) (d : List Byte) : List Byte := (c :: d) ++ crcBytes (crc16 (c :: d))

/-- The raw frame: the stuffed decoded frame, without its flag (R86 step 2). -/
def rawFrameOf (c : Byte) (d : List Byte) : List Byte := stuffAll (decodedFrame c d)

/-- Encode a frame: the raw frame and the terminating FLAG, which is never escaped (R121). -/
def encodeFrame (c : Byte) (d : List Byte) : List Byte := rawFrameOf c d ++ [flagByte]

/-! ### Decoder (R123 to R132) -/

/-- Decoder working state (R124). -/
structure Decoder where
  esc : Bool
  sub : Bool
  xerr : Bool
  long : Bool
  frame : List Byte
deriving DecidableEq, Repr

/-- The decoder as initialised for a raw frame with overflow bit `ovf` (R124). -/
def Decoder.start (ovf : Bool) : Decoder :=
  { esc := false, sub := false, xerr := false, long := ovf, frame := [] }

/-- Append a decoded byte under the length bound `MAX_FRAME_LEN` (R125, R130). -/
def Decoder.push (cfg : Config) (d : Decoder) (v : Byte) : Decoder :=
  if d.frame.length < cfg.maxFrameLen then { d with esc := false, frame := d.frame ++ [v] }
  else { d with esc := false, long := true }

/-- The per-byte rule for a byte other than CANCEL (R125, R126, R128, R129). -/
def Decoder.byte (cfg : Config) (d : Decoder) (b : Byte) : Decoder :=
  if b = substituteByte then { d with sub := true }
  else if b = xonByte ∨ b = xoffByte then
    (if cfg.hwFlowControl then { d with xerr := true } else d)
  else if b = escapeByte then { d with esc := true }
  else d.push cfg (if d.esc then b ^^^ escapeMask else b)

/-- The bytes of a raw frame in order; `none` when a CANCEL aborts the frame (R125, R127). -/
def Decoder.bytes (cfg : Config) : List Byte → Decoder → Option Decoder
  | [], d => some d
  | b :: bs, d => if b = cancelByte then none else Decoder.bytes cfg bs (d.byte cfg b)

/-- Decode outcomes (R132). -/
inductive DecodeOutcome where
  | ok (c : Byte) (data : List Byte)
  | badCrc (frame : List Byte)
  | tooShort (frame : List Byte)
  | tooLong (frame : List Byte)
  | commError (frame : List Byte)
  | cancelled
  | empty
  | xonXoffError (frame : List Byte)
deriving DecidableEq, Repr

/-- Close and classify; the first condition in this order gives the result (R131). -/
def Decoder.close (d : Decoder) : DecodeOutcome :=
  if d.xerr then .xonXoffError d.frame
  else if d.sub then .commError d.frame
  else if d.long then .tooLong d.frame
  else match d.frame with
    | [] => .empty
    | c :: rest =>
      if (c :: rest).length < minFrameLen then .tooShort (c :: rest)
      else if crcOk (c :: rest) then .ok c (rest.take (rest.length - 2))
      else .badCrc (c :: rest)

/-- Decode a raw frame (R123, R125). -/
def decodeFrame (cfg : Config) (raw : List Byte) (ovf : Bool) : DecodeOutcome :=
  match Decoder.bytes cfg raw (Decoder.start ovf) with
  | none => .cancelled
  | some d => d.close

/-! ### Deframer (R140 to R147) -/

/-- The deframer's state: `partial` and `partialOverflow` (R36). -/
structure Deframer where
  held : List Byte
  overflow : Bool
deriving DecidableEq, Repr

/-- The deframer with nothing collected. -/
def Deframer.clear : Deframer := { held := [], overflow := false }

/-- The bytes after the last CANCEL of a chunk, when it contains one (R141). -/
def afterLastCancel : List Byte → Option (List Byte)
  | [] => none
  | b :: bs =>
    match afterLastCancel bs with
    | some rest => some rest
    | none => if b = cancelByte then some bs else none

/-- Collect one byte that is not FLAG, under the bound `RAW_MAX` (R142, R143). -/
def Deframer.push (rawMax : Nat) (d : Deframer) (b : Byte) : Deframer :=
  if d.held.length < rawMax then { d with held := d.held ++ [b] } else { d with overflow := true }

/-- Cut bytes at each FLAG (R140, R142): the raw frames with their overflow bits, in order, and the
deframer afterwards. -/
def Deframer.bytes (rawMax : Nat) : List Byte → Deframer → List (List Byte × Bool) × Deframer
  | [], d => ([], d)
  | b :: bs, d =>
    if b = flagByte then
      ((d.held, d.overflow) :: (Deframer.bytes rawMax bs .clear).1, (Deframer.bytes rawMax bs .clear).2)
    else Deframer.bytes rawMax bs (d.push rawMax b)

/-- `deframe(chunk)` (R140): a chunk with a CANCEL is cut after its last one and the carried partial
frame is dropped with what precedes it (R141). -/
def Deframer.chunk (rawMax : Nat) (d : Deframer) (chunk : List Byte) : List (List Byte × Bool) × Deframer :=
  match afterLastCancel chunk with
  | some rest => Deframer.bytes rawMax rest .clear
  | none => Deframer.bytes rawMax chunk d

end Sys2Proof.Machine
end

