-- ==== Sys2Proof/Syntax.lean ====
section
/-!
DEFINITION. The instruction set: one constructor of `Instr` for each row of spec/opcode_table.json, the
eleven commands of 30_encoding.md R88 with the operands each of them uses and the six frame types of
R80 with their fields. Beside it, the two encoded forms an instruction arrives in: the command record
of R87 and the raw frame that the deframer hands to the receive machine (41_deframer.md R140, R144).
-/

namespace Sys2Proof

/-- The block's instructions: eleven commands (R88) and six received frame types (R80). The operand
`now` of a frame is the time of the command that delivers it (`receiveFrame(raw, ovf, now)`, R250);
the frames that read no time carry none. -/
inductive Instr where
  /-- START, opcode 0x01 (R171). -/
  | start (now : Time) (space : Space)
  /-- STOP, opcode 0x02 (R172). -/
  | stop
  /-- RESET_NCP, opcode 0x03 (R173). -/
  | resetNcp
  /-- SEND, opcode 0x04 (R174). -/
  | send (now : Time) (space : Space) (payload : List Byte)
  /-- RX_CHUNK, opcode 0x05 (R175). -/
  | rxChunk (now : Time) (space : Space) (chunk : List Byte)
  /-- TICK, opcode 0x06 (R176). -/
  | tick (now : Time) (space : Space)
  /-- RX_POP, opcode 0x07 (R177). -/
  | rxPop
  /-- IS_CONNECTED, opcode 0x08 (R178). -/
  | isConnected
  /-- IS_IDLE, opcode 0x09 (R180). -/
  | isIdle
  /-- COUNTERS_READ, opcode 0x0A (R181). -/
  | countersRead
  /-- COUNTERS_CLEAR, opcode 0x0B (R182). -/
  | countersClear
  /-- DATA, control byte `0 frmNum(3) rFlag ackNum(3)` (R81, R260); `payload` as on the wire, randomized. -/
  | data (now : Time) (frmNum : Seq) (rFlag : Bool) (ackNum : Seq) (payload : List Byte)
  /-- ACK, control byte `100 pFlag nFlag ackNum(3)` (R82, R259). -/
  | ack (now : Time) (pFlag nFlag : Bool) (ackNum : Seq)
  /-- NAK, control byte `101 pFlag nFlag ackNum(3)` (R83, R264). -/
  | nak (now : Time) (pFlag nFlag : Bool) (ackNum : Seq)
  /-- RST, control byte 0xC0 (R84, R265). -/
  | rst
  /-- RSTACK, control byte 0xC1, data bytes version and reset reason (R84, R266, R268). -/
  | rstack (version resetReason : Byte)
  /-- ERROR, control byte 0xC2, data bytes version and error code (R84, R267). -/
  | error (version errorCode : Byte)
deriving DecidableEq, Repr

/-- A received frame of one of the six types, without its time of arrival: what a legal decoded frame
says (R80 to R85). -/
inductive Frame where
  /-- DATA (R81). -/
  | data (frmNum : Seq) (rFlag : Bool) (ackNum : Seq) (payload : List Byte)
  /-- ACK (R82). -/
  | ack (pFlag nFlag : Bool) (ackNum : Seq)
  /-- NAK (R83). -/
  | nak (pFlag nFlag : Bool) (ackNum : Seq)
  /-- RST (R84). -/
  | rst
  /-- RSTACK (R84). -/
  | rstack (version resetReason : Byte)
  /-- ERROR (R84). -/
  | error (version errorCode : Byte)
deriving DecidableEq, Repr

/-- A command record `{op, now, space, data}` (R87). -/
structure CommandRecord where
  op : Byte
  now : Time
  space : Space
  data : List Byte
deriving DecidableEq, Repr

/-- One item the environment hands to the block: a command record (R87), or one raw frame with its
overflow bit and time, as the deframer hands it to the receive machine (R140, R144, R250; DESIGN
CHOICE, log entry 4: safe). -/
inductive Input where
  | command (c : CommandRecord)
  | rawFrame (raw : List Byte) (ovf : Bool) (now : Time)
deriving DecidableEq, Repr

end Sys2Proof
end

