-- ==== Sys2Proof/WellFormed.lean ====
section
/-!
DEFINITION. Well-formedness: of a configuration (00_scope.md R8, R9) and of an instruction under a
configuration (30_encoding.md R85: the legal length of a DATA frame).
-/

namespace Sys2Proof

/-- The constraints of R9 and, for the pool sizes and the refresh period, of the table of R8. -/
def Config.valid (c : Config) : Bool :=
  decide (1 ≤ c.txK) && decide (c.txK ≤ 7) &&
  decide (1 ≤ c.minDataLen) && decide (c.minDataLen ≤ c.maxDataLen) &&
  decide (c.maxDataLen + 3 ≤ c.maxFrameLen) &&
  decide (1 ≤ c.txPoolSize) && decide (1 ≤ c.rxPoolSize) && decide (1 ≤ c.nrRefresh)

/-- An instruction is well formed when it is the reading of some encoding under the configuration: a
DATA frame carries `MIN_DATA_LEN` to `MAX_DATA_LEN` payload bytes (R85), and the five decoded bytes of an
RSTACK or ERROR frame fit in `MAX_FRAME_LEN` (R130; R9 admits a `MAX_FRAME_LEN` of 4, log entry 20). Every
other operand is well formed by its type: a SEND or RX_CHUNK takes a byte string of any length (R174, R175). -/
def Instr.wellFormed (c : Config) : Instr → Bool
  | .data _ _ _ _ payload => decide (c.minDataLen ≤ payload.length) && decide (payload.length ≤ c.maxDataLen)
  | .start _ _ => true
  | .stop => true
  | .resetNcp => true
  | .send _ _ _ => true
  | .rxChunk _ _ _ => true
  | .tick _ _ => true
  | .rxPop => true
  | .isConnected => true
  | .isIdle => true
  | .countersRead => true
  | .countersClear => true
  | .ack _ _ _ _ => true
  | .nak _ _ _ _ => true
  | .rst => true
  | .rstack _ _ => decide (5 ≤ c.maxFrameLen)
  | .error _ _ => decide (5 ≤ c.maxFrameLen)

end Sys2Proof
end

