-- ==== Sys2Proof/Decode.lean ====
section
/-!
DEFINITION. Decoding of both encoded languages (30_encoding.md): a command record by its opcode (R88), a
raw frame by the byte codec, its control byte (R80) and its length (R85). Total on any bytes; what is
no instruction is rejected by name. After it the encoder, from the same tables, and the reading of an
opcode-table word.
-/

namespace Sys2Proof

open Sys2Proof.Machine

/-! ### Control bytes (R80 to R85) -/

/-- The frame types of R80; `invalid` is the complement of the six rows. -/
inductive FrameType where
  | data | ack | nak | rst | rstack | error | invalid
deriving DecidableEq, Repr

/-- Frame type by control byte, the first matching row (R80). -/
def frameType (c : Byte) : FrameType :=
  if c &&& 0x80#8 = 0x00#8 then .data
  else if c &&& 0xE0#8 = 0x80#8 then .ack
  else if c &&& 0xE0#8 = 0xA0#8 then .nak
  else if c = 0xC0#8 then .rst
  else if c = 0xC1#8 then .rstack
  else if c = 0xC2#8 then .error
  else .invalid

/-- The legal decoded length (control and data, no CRC) of each type (R85). -/
def lengthOk (cfg : Config) (t : FrameType) (len : Nat) : Bool :=
  match t with
  | .data => decide (1 + cfg.minDataLen ≤ len) && decide (len ≤ 1 + cfg.maxDataLen)
  | .ack => decide (len = 1)
  | .nak => decide (len = 1)
  | .rst => decide (len = 1)
  | .rstack => decide (len = 3)
  | .error => decide (len = 3)
  | .invalid => false

/-- `frmNum = c[6:4]` (R81). -/
def frmNumOf (c : Byte) : Seq := c.extractLsb' 4 3

/-- `ackNum = c[2:0]` (R81 to R83). -/
def ackNumOf (c : Byte) : Seq := c.extractLsb' 0 3

/-- Bit 3: `rFlag` of DATA, `nFlag` of ACK and NAK (R81 to R83). -/
def bit3Of (c : Byte) : Bool := c.getLsbD 3

/-- Bit 4: `pFlag` of ACK and NAK (R82, R83). -/
def bit4Of (c : Byte) : Bool := c.getLsbD 4

/-- The frame a control byte and its data bytes say, when the type has that length (R80 to R85, R253);
`none` is an illegal control byte or length. -/
def frameOf (cfg : Config) (c : Byte) (data : List Byte) : Option Frame :=
  if lengthOk cfg (frameType c) (1 + data.length) then
    match frameType c, data with
    | .data, d => some (.data (frmNumOf c) (bit3Of c) (ackNumOf c) d)
    | .ack, _ => some (.ack (bit4Of c) (bit3Of c) (ackNumOf c))
    | .nak, _ => some (.nak (bit4Of c) (bit3Of c) (ackNumOf c))
    | .rst, _ => some .rst
    | .rstack, [v, r] => some (.rstack v r)
    | .error, [v, e] => some (.error v e)
    | _, _ => none
  else none

/-! ### Raw frames (R123 to R132, R253) -/

/-- Why a raw frame is no frame: the failures of R132 and, for a frame that decodes, an illegal control
byte or length (R253). -/
inductive FrameReject where
  | badCrc (frame : List Byte)
  | tooShort (frame : List Byte)
  | tooLong (frame : List Byte)
  | commError (frame : List Byte)
  | cancelled
  | empty
  | xonXoff
  | illegal (c : Byte) (data : List Byte)
deriving DecidableEq, Repr

/-- Decode a raw frame to one of the six frames, or reject it by name (R250, first half). -/
def decodeRaw (cfg : Config) (raw : List Byte) (ovf : Bool) : Except FrameReject Frame :=
  match decodeFrame cfg raw ovf with
  | .ok c data =>
    match frameOf cfg c data with
    | some f => .ok f
    | none => .error (.illegal c data)
  | .badCrc frame => .error (.badCrc frame)
  | .tooShort frame => .error (.tooShort frame)
  | .tooLong frame => .error (.tooLong frame)
  | .commError frame => .error (.commError frame)
  | .cancelled => .error .cancelled
  | .empty => .error .empty
  | .xonXoffError _ => .error .xonXoff

/-- The instruction of a received frame, with the time it is delivered at (R250). -/
def Instr.ofFrame (now : Time) : Frame → Instr
  | .data f r a d => .data now f r a d
  | .ack p n a => .ack now p n a
  | .nak p n a => .nak now p n a
  | .rst => .rst
  | .rstack v r => .rstack v r
  | .error v e => .error v e

/-! ### Commands (R87, R88) -/

/-- A command by its opcode; `none` for the reserved opcodes (R88, R93). Operands a command does not
use are ignored (R87). -/
def decodeCommand (c : CommandRecord) : Option Instr :=
  if c.op = 0x01#8 then some (.start c.now c.space)
  else if c.op = 0x02#8 then some .stop
  else if c.op = 0x03#8 then some .resetNcp
  else if c.op = 0x04#8 then some (.send c.now c.space c.data)
  else if c.op = 0x05#8 then some (.rxChunk c.now c.space c.data)
  else if c.op = 0x06#8 then some (.tick c.now c.space)
  else if c.op = 0x07#8 then some .rxPop
  else if c.op = 0x08#8 then some .isConnected
  else if c.op = 0x09#8 then some .isIdle
  else if c.op = 0x0A#8 then some .countersRead
  else if c.op = 0x0B#8 then some .countersClear
  else none

/-- Why an input is no instruction: a reserved opcode (R93), or a rejected raw frame. -/
inductive DecodeError where
  | reservedOpcode (op : Byte)
  | frame (r : FrameReject)
deriving DecidableEq, Repr

/-- The decoder: total, rejecting by name. -/
def decode (cfg : Config) : Input → Except DecodeError Instr
  | .command c =>
    match decodeCommand c with
    | some i => .ok i
    | none => .error (.reservedOpcode c.op)
  | .rawFrame raw ovf now =>
    match decodeRaw cfg raw ovf with
    | .ok f => .ok (Instr.ofFrame now f)
    | .error r => .error (.frame r)

/-! ### The encoder -/

/-- Assembled DATA control byte: `(frmNum << 4) | (rFlag << 3) | ackNum` (R81). -/
def dataControl (frmNum : Seq) (rFlag : Bool) (ackNum : Seq) : Byte :=
  (frmNum.setWidth 8 <<< 4) ||| ((BitVec.ofBool rFlag).setWidth 8 <<< 3) ||| ackNum.setWidth 8

/-- Assembled ACK control byte: `0x80 | (pFlag << 4) | (nFlag << 3) | ackNum` (R82). -/
def ackControl (pFlag nFlag : Bool) (ackNum : Seq) : Byte :=
  0x80#8 ||| ((BitVec.ofBool pFlag).setWidth 8 <<< 4) ||| ((BitVec.ofBool nFlag).setWidth 8 <<< 3) |||
    ackNum.setWidth 8

/-- Assembled NAK control byte: `0xA0 | (pFlag << 4) | (nFlag << 3) | ackNum` (R83). -/
def nakControl (pFlag nFlag : Bool) (ackNum : Seq) : Byte :=
  0xA0#8 ||| ((BitVec.ofBool pFlag).setWidth 8 <<< 4) ||| ((BitVec.ofBool nFlag).setWidth 8 <<< 3) |||
    ackNum.setWidth 8

/-- The RST control byte (R84). -/
def rstControl : Byte := 0xC0#8

/-- The RSTACK control byte (R84). -/
def rstackControl : Byte := 0xC1#8

/-- The ERROR control byte (R84). -/
def errorControl : Byte := 0xC2#8

/-- The control byte of a frame (R81 to R84). -/
def Frame.control : Frame → Byte
  | .data f r a _ => dataControl f r a
  | .ack p n a => ackControl p n a
  | .nak p n a => nakControl p n a
  | .rst => rstControl
  | .rstack _ _ => rstackControl
  | .error _ _ => errorControl

/-- The data bytes of a frame (R81 to R84). -/
def Frame.dataBytes : Frame → List Byte
  | .data _ _ _ d => d
  | .ack _ _ _ => []
  | .nak _ _ _ => []
  | .rst => []
  | .rstack v r => [v, r]
  | .error v e => [v, e]

/-- The wire frame `WIRE(frame)` (R86). -/
def Frame.wire (f : Frame) : List Byte := encodeFrame f.control f.dataBytes

/-- A frame as the raw frame the deframer delivers for its wire bytes. -/
def Frame.toInput (f : Frame) (now : Time) : Input := .rawFrame (rawFrameOf f.control f.dataBytes) false now

/-- The encoder: the command record with its opcode of R88, operands it does not use 0 or empty (R97;
DESIGN CHOICE, log entry 18: safe), or the raw frame of R86. -/
def encode : Instr → Input
  | .start now space => .command { op := 0x01#8, now := now, space := space, data := [] }
  | .stop => .command { op := 0x02#8, now := 0, space := 0, data := [] }
  | .resetNcp => .command { op := 0x03#8, now := 0, space := 0, data := [] }
  | .send now space payload => .command { op := 0x04#8, now := now, space := space, data := payload }
  | .rxChunk now space chunk => .command { op := 0x05#8, now := now, space := space, data := chunk }
  | .tick now space => .command { op := 0x06#8, now := now, space := space, data := [] }
  | .rxPop => .command { op := 0x07#8, now := 0, space := 0, data := [] }
  | .isConnected => .command { op := 0x08#8, now := 0, space := 0, data := [] }
  | .isIdle => .command { op := 0x09#8, now := 0, space := 0, data := [] }
  | .countersRead => .command { op := 0x0A#8, now := 0, space := 0, data := [] }
  | .countersClear => .command { op := 0x0B#8, now := 0, space := 0, data := [] }
  | .data now f r a d => (Frame.data f r a d).toInput now
  | .ack now p n a => (Frame.ack p n a).toInput now
  | .nak now p n a => (Frame.nak p n a).toInput now
  | .rst => Frame.rst.toInput 0
  | .rstack v r => (Frame.rstack v r).toInput 0
  | .error v e => (Frame.error v e).toInput 0

/-! ### Words of the opcode table -/

/-- The data bytes that follow a control byte when every operand byte is zero: as many as the shortest
legal frame of the type has (R85). -/
def zeroOperands (cfg : Config) (c : Byte) : List Byte :=
  match frameType c with
  | .data => List.replicate cfg.minDataLen 0
  | .rstack => [0, 0]
  | .error => [0, 0]
  | .ack => []
  | .nak => []
  | .rst => []
  | .invalid => []

/-- An opcode-table byte as the input the hardware takes it from: 0x01 to 0x0B is a command's opcode
(R88) with zero operands; every other byte is a control byte (R80) in a raw frame with zero data bytes
and their CRC (R86). The two languages share 0x01 to 0x0B; see log entry 5 (DESIGN CHOICE, safe). -/
def tableInput (cfg : Config) (w : Nat) : Input :=
  if 1 ≤ w ∧ w ≤ 0x0B then .command { op := BitVec.ofNat 8 w, now := 0, space := 0, data := [] }
  else .rawFrame (rawFrameOf (BitVec.ofNat 8 w) (zeroOperands cfg (BitVec.ofNat 8 w))) false 0

/-- The instruction the decoder reads from an opcode-table word, under `TC` (R10). Every row of the
table is 8 bits; a word with more bits than its row is none. -/
def decodeTableWord (nbits w : Nat) : Option Instr :=
  if nbits = 8 ∧ w < 256 then
    match decode Config.tc (tableInput Config.tc w) with
    | .ok i => some i
    | .error _ => none
  else none

end Sys2Proof
end

