-- ==== Sys2Proof/Machine/Memory.lean ====
section
/-!
DEFINITION. The buffer arena of one pool (10_state.md R33, 20_memory.md R61, R62): buffers named by handle,
each a used-length and the bytes below it, written whole and read whole. Held as a list of (handle,
bytes) pairs in ONE canonical form (log entry 6: safe): handles strictly rising, and no entry equal to
what an unlisted handle reads as, used-length 0. R62 and R154 give no outcome to an access by a caller that
does not own the handle or to a write of more than `BUF_SIZE` bytes; both accesses complete here
unchecked (log entry 21: DESIGN CHOICE, unsafe in states no run reaches).
-/

namespace Sys2Proof.Machine

/-- One pool's buffers: (handle, the used-length bytes). Bytes past the used-length are unspecified, no
rule reads them (93 U6), and they are not held. -/
abbrev Memory := List (Nat × List Byte)

/-- What a buffer that is not listed reads as: used-length 0, its value at power-on (R33, R330). -/
def Memory.unwritten : List Byte := []

/-- `BufRead(h)`: the used-length bytes of buffer `h` (R62). DESIGN CHOICE (log entry 21): whether the
caller owns `h`, and whether the pool has it, is not checked; R62 and R154 give no outcome where it does not. -/
def Memory.read : Memory → Nat → List Byte
  | [], _ => Memory.unwritten
  | (k, bytes) :: m, h => if k = h then bytes else Memory.read m h

/-- `BufWrite(h, bytes)`: the used-length becomes `len(bytes)` and the bytes below it `bytes` (R62).
DESIGN CHOICE (log entry 21): neither the caller's ownership of `h` nor `len(bytes) <= BUF_SIZE` is checked; R62
and R154 give no outcome where one of them is broken. -/
def Memory.write : Memory → Nat → List Byte → Memory
  | [], h, v => if v = Memory.unwritten then [] else [(h, v)]
  | (k, w) :: m, h, v =>
    if h < k then (if v = Memory.unwritten then (k, w) :: m else (h, v) :: (k, w) :: m)
    else if h = k then (if v = Memory.unwritten then m else (h, v) :: m)
    else (k, w) :: Memory.write m h v

/-- The byte at position `p` of buffer `h`; none at and past the used-length (R61). -/
def Memory.readByte (m : Memory) (h p : Nat) : Option Byte := (m.read h)[p]?

/-- The canonical form. -/
abbrev Memory.wf (m : Memory) : Prop :=
  m.Pairwise (fun a b => a.1 < b.1) ∧ ∀ e ∈ m, e.2 ≠ Memory.unwritten

end Sys2Proof.Machine
end

