-- ==== Sys2Proof/Machine/State.lean ====
section
/-!
DEFINITION. The state of the block as plain data: every element of 10_state.md R23 to R37 with its value at
power-on (70_reset_and_hazards.md R330), the configuration (00_scope.md R8), the response (30_encoding.md
R89) and the commands waiting to be taken. Beside it the reasons a step can stop.
-/

namespace Sys2Proof.Machine

/-- States of the send machine (R27). -/
inductive SendState where
  | idle | sendingShortFrame | sendingData | resendingData
deriving DecidableEq, Repr

/-- Kind of the frame in `txFrame` (R27). -/
inductive TxKind where
  | none | rst | ack | nak | data | redata
deriving DecidableEq, Repr

/-- Legal values of `fatalStatus` (R31). -/
inductive FatalStatus where
  | none | hostFatalError | ncpFatalError
deriving DecidableEq, Repr

/-- Fatal error codes (R305). -/
inductive FatalCode where
  | none | timeouts | xonXoff | version | ncpReset | ncpError | resetFail
deriving DecidableEq, Repr

/-- Status codes of a response (R89). -/
inductive Status where
  | success | pending | notConnected | noTxSpace | dataFrameTooShort | dataFrameTooLong
  | hostFatalError | ncpFatalError | noRxData | badCommand
deriving DecidableEq, Repr

/-- Events of a response (R90, R303). -/
inductive Event where
  /-- One DATA payload was placed on `rxQueue`. -/
  | frame
  /-- The fatal latch was entered. -/
  | fatal (status : Status) (code : FatalCode) (info : Byte)
  /-- The wait of a START ended. -/
  | startDone (status : Status)
deriving DecidableEq, Repr

/-- The `value` of a response (R89). -/
inductive Value where
  | empty
  | bool (b : Bool)
  | counters (l : List Counter)
  | bytes (l : List Byte)
deriving DecidableEq, Repr

/-- The response to a command (R89). -/
structure Response where
  status : Status
  out : List Byte
  events : List Event
  value : Value
deriving DecidableEq, Repr

/-- A timer: a `running` bit and the time it was last started (R32). -/
structure Timer where
  running : Bool
  start : Time
deriving DecidableEq, Repr

/-- The statistics counters, in index order (R37). -/
structure Counters where
  rxCrcErrors : Counter
  rxCommErrors : Counter
  rxTooShort : Counter
  rxTooLong : Counter
  rxBadFrame : Counter
  rxBadAckNum : Counter
  rxOutOfSequence : Counter
  rxDuplicates : Counter
  rxNoBuffer : Counter
  ackTimeouts : Counter
deriving DecidableEq, Repr

/-- The state of the block. -/
structure State where
  /-- The configuration, constant for the whole run (R8, R38; log entry 1). -/
  cfg : Config
  -- lifecycle (R23)
  active : Bool
  connected : Bool
  startPending : Bool
  startTime : Time
  -- sequence-number tracker (R24)
  frmTx : Seq
  frmRx : Seq
  ackRx : Seq
  ackTx : Seq
  frmReTx : Seq
  -- send state machine (R27)
  sendState : SendState
  txFrame : List Byte
  txKind : TxKind
  -- session flags (R30)
  cancelPending : Bool
  rstPending : Bool
  rstSent : Bool
  ackPending : Bool
  nakPending : Bool
  rejectCond : Bool
  retransmit : Bool
  notReady : Bool
  peerNotReady : Bool
  -- fatal latch (R31)
  fatalStatus : FatalStatus
  fatalCode : FatalCode
  fatalInfo : Byte
  -- timers (R32)
  ackTimer : Timer
  ackPeriod : BitVec 12
  timeouts : BitVec 3
  nrTimer : Timer
  -- buffer arena, one memory per pool (R33)
  txBuffers : Memory
  rxBuffers : Memory
  -- free-lists and queues of handles, oldest at the front (R34)
  txFreeList : List Nat
  rxFreeList : List Nat
  txQueue : List Nat
  reTxQueue : List Nat
  rxQueue : List Nat
  -- deframer (R36): `partial` and `partialOverflow`
  partialBytes : List Byte
  partialOverflow : Bool
  -- statistics counters (R37)
  counters : Counters
  /-- The response in progress, or the last one given (R89, R170; the model's own field, log entry 3). -/
  resp : Response
  /-- Inputs issued and not yet taken, oldest first (R20, R87; the model's own field, log entry 2). -/
  input : List Input
deriving DecidableEq, Repr

/-- Why a step stops with no successor: a precondition of the buffer operations is broken. No rule of
the spec reaches one from power-on (R312; 93 U1, U2); each is safe (log entry 7). -/
inductive Fault where
  /-- `free(h)` of a handle that still has another owner (R154): raised by the two `free` operations. Safe. -/
  | freeNotOwned
  /-- `pop_front` of an empty queue (R156): raised when more frames are acknowledged than are queued. Safe. -/
  | popEmptyQueue
  /-- `peekNth` out of range (R158): raised by the retransmission lookup. Safe. -/
  | peekOutOfRange
deriving DecidableEq, Repr

/-- Why a step is refused. -/
inductive Refusal where
  /-- The instruction has no meaning in this model: raised by no arm of `exec`. Safe. -/
  | notModelled (mnemonic : String)
  /-- The configuration breaks R8 or R9 (93 U12): raised by `step`. Safe. -/
  | badConfiguration
deriving DecidableEq, Repr

/-- The response with nothing in it (43_commands.md, opening; R170). -/
def Response.empty : Response := { status := .success, out := [], events := [], value := .empty }

/-- All counters zero (R37). -/
def Counters.zero : Counters where
  rxCrcErrors := 0
  rxCommErrors := 0
  rxTooShort := 0
  rxTooLong := 0
  rxBadFrame := 0
  rxBadAckNum := 0
  rxOutOfSequence := 0
  rxDuplicates := 0
  rxNoBuffer := 0
  ackTimeouts := 0

/-- Power-on under a configuration (R330): every element at its value of R23 to R37. -/
def State.powerOn (cfg : Config) : State where
  cfg := cfg
  active := false
  connected := false
  startPending := false
  startTime := 0
  frmTx := 0
  frmRx := 0
  ackRx := 0
  ackTx := 0
  frmReTx := 0
  sendState := .idle
  txFrame := []
  txKind := .none
  cancelPending := false
  rstPending := false
  rstSent := false
  ackPending := false
  nakPending := false
  rejectCond := false
  retransmit := false
  notReady := false
  peerNotReady := false
  fatalStatus := .none
  fatalCode := .none
  fatalInfo := 0
  ackTimer := { running := false, start := 0 }
  ackPeriod := BitVec.ofNat 12 ackTimeInit
  timeouts := 0
  nrTimer := { running := false, start := 0 }
  txBuffers := []
  rxBuffers := []
  txFreeList := List.range cfg.txPoolSize
  rxFreeList := List.range cfg.rxPoolSize
  txQueue := []
  reTxQueue := []
  rxQueue := []
  partialBytes := []
  partialOverflow := false
  counters := Counters.zero
  resp := Response.empty
  input := []

/-- The machine right after reset: power-on under the test configuration `TC` (R10, R330; the choice of
`TC` is a DESIGN CHOICE, log entry 1: unsafe for a claim about other configurations). -/
def State.reset : State := State.powerOn Config.tc

end Sys2Proof.Machine
end

