-- ==== Sys2Proof/Machine/Operands.lean ====
section
/-!
DEFINITION. The arithmetic the rules do on operands (00_scope.md R13, R14, R18): sequence numbers modulo 8,
elapsed time modulo 2^32, the adaptive ACK period, and the numeric codes of 30_encoding.md R89 and
60_exceptions.md R305.
-/

namespace Sys2Proof.Machine

/-- `inc8(x)` (R13). -/
def inc8 (x : Seq) : Seq := x + 1

/-- `dist8(a, b)`: the number of increments from `a` to `b` (R13). -/
def dist8 (a b : Seq) : Nat := (b - a).toNat

/-- `within(lo, x, hi)`: the circular range test, both ends included (R13, R25). -/
def within (lo x hi : Seq) : Bool := decide (dist8 lo x ≤ dist8 lo hi)

/-- `elapsed(t)` at the time `now` of the current command (R14, R239). -/
def elapsed (now t : Time) : Nat := (now - t).toNat

/-- `clamp(v, lo, hi)` (R12). -/
def clamp (v lo hi : Nat) : Nat := min (max v lo) hi

/-- The adaptive period on an ACK: an exact intermediate value, floor division, then the clamp (R232). -/
def adaptedPeriod (period : BitVec 12) (e : Nat) : BitVec 12 :=
  BitVec.ofNat 12 (clamp ((7 * period.toNat + e) / 8) ackTimeMin ackTimeMax)

/-- The period on a timeout: doubled and capped (R233). -/
def doubledPeriod (period : BitVec 12) : BitVec 12 :=
  BitVec.ofNat 12 (min (2 * period.toNat) ackTimeMax)

/-- A timer has expired: it runs and `elapsed(start) >= period` (R14, R231). -/
def Timer.expired (t : Timer) (now : Time) (period : Nat) : Bool :=
  t.running && decide (period ≤ elapsed now t.start)

/-- The numeric status codes (R89). -/
def Status.code : Status → Byte
  | .success => 0x00#8
  | .pending => 0x01#8
  | .notConnected => 0x02#8
  | .noTxSpace => 0x03#8
  | .dataFrameTooShort => 0x04#8
  | .dataFrameTooLong => 0x05#8
  | .hostFatalError => 0x06#8
  | .ncpFatalError => 0x07#8
  | .noRxData => 0x08#8
  | .badCommand => 0x09#8

/-- The numeric fatal codes (R305). -/
def FatalCode.code : FatalCode → Byte
  | .none => 0x00#8
  | .timeouts => 0x01#8
  | .xonXoff => 0x02#8
  | .version => 0x03#8
  | .ncpReset => 0x04#8
  | .ncpError => 0x05#8
  | .resetFail => 0x06#8

/-- `fatalStatus` as a response status, with the same values; `NONE` is 0x00, SUCCESS (R31, R89). -/
def FatalStatus.toStatus : FatalStatus → Status
  | .none => .success
  | .hostFatalError => .hostFatalError
  | .ncpFatalError => .ncpFatalError

/-- The counters in index order 0 to 9 (R37, R181). -/
def Counters.toList (c : Counters) : List Counter :=
  [c.rxCrcErrors, c.rxCommErrors, c.rxTooShort, c.rxTooLong, c.rxBadFrame, c.rxBadAckNum,
    c.rxOutOfSequence, c.rxDuplicates, c.rxNoBuffer, c.ackTimeouts]

end Sys2Proof.Machine
end

