-- ==== Sys2Proof/Machine/Flags.lean ====
section
/-!
DEFINITION. The operations on the session flags (10_state.md R30) and on the timers that go with them: the reject condition
(46_receive.md R254, R255), not-ready flow control (47_flow_control.md R291, R292), retransmission mode
(45_timers.md R237), the timer primitives (45_timers.md R231, R241, R243) and the quiescence predicate
(43_commands.md R180).
-/

namespace Sys2Proof.Machine

/-- `ackTimerStart(now)` (R231). -/
def State.ackTimerStart (now : Time) (s : State) : State := { s with ackTimer := { running := true, start := now } }

/-- `ackTimerStop()`: the start time keeps its value (R231). -/
def State.ackTimerStop (s : State) : State := { s with ackTimer := { s.ackTimer with running := false } }

/-- `nrTimerStart(now)` (R241). -/
def State.nrTimerStart (now : Time) (s : State) : State := { s with nrTimer := { running := true, start := now } }

/-- `nrTimerStop()` (R243). -/
def State.nrTimerStop (s : State) : State := { s with nrTimer := { s.nrTimer with running := false } }

/-- `reject()`: a run of bad DATA frames asks for one NAK (R255). -/
def State.reject (s : State) : State :=
  if s.rejectCond then s else { s with rejectCond := true, nakPending := true }

/-- `rejIfData(F)`: reject when connected and the first decoded byte is a DATA control byte (R254). -/
def State.rejIfData (frame : List Byte) (s : State) : State :=
  match frame with
  | [] => s
  | c :: _ => if s.connected && !c.getLsbD 7 then s.reject else s

/-- `readyAgain()`: the not-ready timer stops and, when connected, an ACK is requested (R292). -/
def State.readyAgain (s : State) : State :=
  if s.connected then { s.nrTimerStop with ackPending := true } else s.nrTimerStop

/-- The value `nrEval()` gives `notReady`: strict comparisons with the watermarks, hysteresis between (R290, R291). -/
def State.notReadyNext (s : State) : Bool :=
  if s.rxFreeList.length < rxLowWatermark then true
  else if rxHighWatermark < s.rxFreeList.length then false
  else s.notReady

/-- `nrEval()` (R291). -/
def State.nrEval (s : State) : State :=
  if s.notReady && !s.notReadyNext then { s with notReady := s.notReadyNext }.readyAgain
  else { s with notReady := s.notReadyNext }

/-- `startRetransmit()` (R237). -/
def State.startRetransmit (s : State) : State := { s with retransmit := true, frmReTx := s.ackRx }

/-- The quiescence predicate of IS_IDLE (R180). -/
def State.quiescent (s : State) : Bool :=
  s.sendState == .idle && s.txFrame.isEmpty && s.txQueue.isEmpty && s.ackRx == s.frmTx &&
    !s.cancelPending && !s.rstPending && !s.ackPending && !s.nakPending

end Sys2Proof.Machine
end

