-- ==== Sys2Proof/Machine/Ops.lean ====
section
/-!
DEFINITION. The named operations over the state: the response (R16, R89), the buffer pool and its queues
(42_buffers.md R151 to R164), the counters (R37), ENTERING the fatal latch as one shared operation
(60_exceptions.md R306) and, beside it, leaving it: the resets of 70_reset_and_hazards.md R331.
-/

namespace Sys2Proof.Machine

/-- What an operation with a precondition gives: the next state, or the fault of a broken precondition. -/
abbrev Result := Except Fault State

/-- A meaning's outcome from a result. -/
def Result.outcome (r : Result) : Host.Outcome State Fault Refusal :=
  match r with
  | .ok s => .next s
  | .error f => .fault f

/-! ### The response -/

/-- A command's response starts empty (43_commands.md, opening). -/
def State.beginResponse (s : State) : State := { s with resp := Response.empty }

/-- `return status` (R16). -/
def State.respond (st : Status) (s : State) : State := { s with resp := { s.resp with status := st } }

/-- The `value` of the response (R89). -/
def State.setValue (v : Value) (s : State) : State := { s with resp := { s.resp with value := v } }

/-- `emit(b)`: append a byte to the command's output string (R16). -/
def State.emit (b : Byte) (s : State) : State := { s with resp := { s.resp with out := s.resp.out ++ [b] } }

/-- `signal(E)`: append an event to the command's event list (R16, R303). -/
def State.signal (e : Event) (s : State) : State := { s with resp := { s.resp with events := s.resp.events ++ [e] } }

/-! ### Buffer pool and queues -/

/-- `allocate(TX)`: the front of the transmit free-list (R151, R152). -/
def State.txAllocate (s : State) : Option (Nat × State) :=
  match s.txFreeList with
  | [] => none
  | h :: fl => some (h, { s with txFreeList := fl })

/-- `allocate(RX)`: the front of the receive free-list (R151, R152). -/
def State.rxAllocate (s : State) : Option (Nat × State) :=
  match s.rxFreeList with
  | [] => none
  | h :: fl => some (h, { s with rxFreeList := fl })

/-- `free(h)` of a transmit handle: append to the back of its free-list (R153); stuck when the handle
still has an owner other than the caller (R154). -/
def State.txFree (h : Nat) (s : State) : Result :=
  if h ∈ s.txFreeList ∨ h ∈ s.txQueue ∨ h ∈ s.reTxQueue then .error .freeNotOwned
  else .ok { s with txFreeList := s.txFreeList ++ [h] }

/-- `free(h)` of a receive handle (R153, R154). -/
def State.rxFree (h : Nat) (s : State) : Result :=
  if h ∈ s.rxFreeList ∨ h ∈ s.rxQueue then .error .freeNotOwned
  else .ok { s with rxFreeList := s.rxFreeList ++ [h] }

/-- `peekNth(q, n)`: the handle `n` places from the front (R158). -/
def peekNth (q : List Nat) (n : Nat) : Except Fault Nat :=
  match q[n]? with
  | some h => .ok h
  | none => .error .peekOutOfRange

/-- `n` times `free(pop_front(reTxQueue))` (R156, R164, R257). -/
def State.freeReTx : Nat → State → Result
  | 0, s => .ok s
  | n + 1, s =>
    match s.reTxQueue with
    | [] => .error .popEmptyQueue
    | h :: q =>
      match { s with reTxQueue := q }.txFree h with
      | .ok s' => State.freeReTx n s'
      | .error f => .error f

/-- `n` times `free(pop_front(txQueue))` (R156, R164). -/
def State.freeTx : Nat → State → Result
  | 0, s => .ok s
  | n + 1, s =>
    match s.txQueue with
    | [] => .error .popEmptyQueue
    | h :: q =>
      match { s with txQueue := q }.txFree h with
      | .ok s' => State.freeTx n s'
      | .error f => .error f

/-- `n` times `free(pop_front(rxQueue))` (R156, R164). -/
def State.freeRx : Nat → State → Result
  | 0, s => .ok s
  | n + 1, s =>
    match s.rxQueue with
    | [] => .error .popEmptyQueue
    | h :: q =>
      match { s with rxQueue := q }.rxFree h with
      | .ok s' => State.freeRx n s'
      | .error f => .error f

/-- `drainQueues()`: all handles of the three queues are freed, in this order (R164). -/
def State.drainQueues (s : State) : Result :=
  match s.freeReTx s.reTxQueue.length with
  | .error f => .error f
  | .ok s₁ =>
    match s₁.freeTx s₁.txQueue.length with
    | .error f => .error f
    | .ok s₂ => s₂.freeRx s₂.rxQueue.length

/-! ### The fatal latch: entry -/

/-- A waiting START ends with the given status (R306, R270, R172). -/
def State.endStart (st : Status) (s : State) : State :=
  if s.startPending then { s with startPending := false }.signal (.startDone st) else s

/-- Fatal entry `raise Fatal(status, code, info)`, once only (R306, R309). -/
def State.raiseFatal (status : FatalStatus) (code : FatalCode) (info : Byte) (s : State) : State :=
  if s.fatalStatus = .none then
    State.endStart .hostFatalError
      ({ s with
          fatalStatus := status
          fatalCode := code
          fatalInfo := info
          connected := false
          txFrame := []
          txKind := .none
          sendState := .idle
          cancelPending := false
          rstPending := false
          ackPending := false
          nakPending := false
          retransmit := false }.ackTimerStop.nrTimerStop.signal (.fatal status.toStatus code info))
  else s

/-! ### The fatal latch: leaving it, and the resets -/

/-- `sessionReset()` (R331). -/
def State.sessionReset (s : State) : State :=
  { s with
      partialBytes := []
      partialOverflow := false
      connected := false
      frmTx := 0
      frmRx := 0
      ackRx := 0
      ackTx := 0
      frmReTx := 0
      sendState := .idle
      txFrame := []
      txKind := .none
      cancelPending := false
      rstPending := false
      rstSent := false
      ackPending := false
      nakPending := false
      rejectCond := false
      retransmit := false
      notReady := false
      peerNotReady := false
      fatalStatus := .none
      fatalCode := .none
      fatalInfo := 0
      ackPeriod := BitVec.ofNat 12 ackTimeInit
      timeouts := 0 }.ackTimerStop.nrTimerStop

/-- `arm()`, the reset run by START and RESET_NCP; it clears the fatal latch (R308, R331). -/
def State.arm (s : State) : Result :=
  match s.drainQueues with
  | .error f => .error f
  | .ok s₁ => .ok { s₁.sessionReset with cancelPending := true, rstPending := true, active := true }.nrEval

/-- `teardown()`, the reset run by STOP; it clears the fatal latch (R308, R331) and, by the row of the table of
R331 that `startTime` shares with `startPending`, `startTime` (log entry 19). -/
def State.teardown (s : State) : Result :=
  match s.drainQueues with
  | .error f => .error f
  | .ok s₁ => .ok { s₁.sessionReset with startTime := 0 }

/-- Connection entry `connect()` (R270). -/
def State.connect (s : State) : State :=
  State.endStart .success
    { { s with
          connected := true
          frmTx := 0
          frmRx := 0
          ackRx := 0
          ackTx := 0
          frmReTx := 0
          counters := Counters.zero
          timeouts := 0
          rejectCond := false
          nakPending := false
          retransmit := false
          cancelPending := false
          rstPending := false }.ackTimerStop with ackPending := true }

end Sys2Proof.Machine
end

