-- ==== Sys2Proof/Machine/Receive.lean ====
section
/-!
DEFINITION. The ARQ receive state machine (46_receive.md): the rules of each received frame type, connection
gating, ack processing, and the frame procedure `receiveFrame` that RX_CHUNK runs for each raw frame.
It emits nothing itself (46_receive.md, opening).
-/

namespace Sys2Proof.Machine

/-! ### Counters (R37, R251) -/

/-- Count a bad CRC (counter 0). -/
def State.countCrcError (s : State) : State :=
  { s with counters := { s.counters with rxCrcErrors := s.counters.rxCrcErrors + 1 } }
/-- Count a comm error (counter 1). -/
def State.countCommError (s : State) : State :=
  { s with counters := { s.counters with rxCommErrors := s.counters.rxCommErrors + 1 } }
/-- Count a frame that is too short (counter 2). -/
def State.countTooShort (s : State) : State :=
  { s with counters := { s.counters with rxTooShort := s.counters.rxTooShort + 1 } }
/-- Count a frame that is too long (counter 3). -/
def State.countTooLong (s : State) : State :=
  { s with counters := { s.counters with rxTooLong := s.counters.rxTooLong + 1 } }
/-- Count an illegal control byte or length (counter 4). -/
def State.countBadFrame (s : State) : State :=
  { s with counters := { s.counters with rxBadFrame := s.counters.rxBadFrame + 1 } }
/-- Count a bad ack number (counter 5). -/
def State.countBadAckNum (s : State) : State :=
  { s with counters := { s.counters with rxBadAckNum := s.counters.rxBadAckNum + 1 } }
/-- Count an out-of-sequence DATA frame (counter 6). -/
def State.countOutOfSequence (s : State) : State :=
  { s with counters := { s.counters with rxOutOfSequence := s.counters.rxOutOfSequence + 1 } }
/-- Count a duplicate DATA frame (counter 7). -/
def State.countDuplicate (s : State) : State :=
  { s with counters := { s.counters with rxDuplicates := s.counters.rxDuplicates + 1 } }
/-- Count a DATA frame dropped for want of a buffer (counter 8). -/
def State.countNoBuffer (s : State) : State :=
  { s with counters := { s.counters with rxNoBuffer := s.counters.rxNoBuffer + 1 } }

/-! ### Rejected raw frames (R251, R253) -/

/-- The effect of a raw frame that is no frame: its counter and the reject path, or a fatal error, or nothing
(R250, R251, R253). -/
def State.frameRejected (r : FrameReject) (s : State) : State :=
  match r with
  | .badCrc f => s.countCrcError.rejIfData f
  | .commError f => s.countCommError.rejIfData f
  | .tooShort f => s.countTooShort.rejIfData f
  | .tooLong f => s.countTooLong.rejIfData f
  | .illegal c d => s.countBadFrame.rejIfData (c :: d)
  | .xonXoff => s.raiseFatal .hostFatalError .xonXoff 0
  | .cancelled => s
  | .empty => s

/-! ### Ack numbers (R256, R257) -/

/-- The ack-number range check (R256). -/
def State.ackValid (a : Seq) (s : State) : Bool := within s.ackRx a s.frmTx

/-- The adaptive-period update of an ACK that advances `ackRx`, when the timer runs (R232). -/
def State.adaptPeriod (now : Time) (s : State) : State :=
  if s.ackTimer.running then { s with ackPeriod := adaptedPeriod s.ackPeriod (elapsed now s.ackTimer.start) }
  else s

/-- The registers after frames up to `a` are acknowledged: `ackRx`, `timeouts`, `frmReTx` not left behind,
a retransmission with nothing left ended (R257). -/
def State.advanceAck (a : Seq) (s : State) : State :=
  let reTx : Seq := if within a s.frmReTx s.frmTx then s.frmReTx else a
  { s with
      ackRx := a
      timeouts := 0
      frmReTx := reTx
      retransmit := if s.retransmit && reTx == s.frmTx then false else s.retransmit }

/-- Restart the ACK timer while frames are outstanding, else stop it (R234). -/
def State.restartOrStop (now : Time) (s : State) : State :=
  if s.ackRx != s.frmTx then s.ackTimerStart now else s.ackTimerStop

/-- `processAck(a, now)` for a valid `a` (R257). -/
def State.processAck (a : Seq) (now : Time) (s : State) : Result :=
  if a = s.ackRx then .ok s
  else
    match (s.adaptPeriod now).freeReTx (dist8 s.ackRx a) with
    | .error f => .error f
    | .ok s' => .ok ((s'.advanceAck a).restartOrStop now)

/-! ### DATA (R260 to R263) -/

/-- An accepted payload in buffer `h`: stored de-randomized, queued, announced, not-ready evaluated, `frmRx`
advanced, the reject condition cleared and an ACK requested (R262 after `allocate`). -/
def State.storeData (h : Nat) (payload : List Byte) (s : State) : State :=
  let s₁ : State :=
    ({ s with
        rxBuffers := s.rxBuffers.write h (randomize payload)
        rxQueue := s.rxQueue ++ [h] }.signal .frame).nrEval
  { s₁ with frmRx := inc8 s₁.frmRx, rejectCond := false, ackPending := true }

/-- `acceptData(data)` (R262). -/
def State.acceptData (payload : List Byte) (s : State) : State :=
  match s.rxAllocate with
  | none => s.countNoBuffer.reject
  | some (h, s₁) => s₁.storeData h payload

/-- `outOfSequence()` (R263). -/
def State.outOfSequence (s : State) : State :=
  if s.rejectCond then s.reject else s.countOutOfSequence.reject

/-- `dataFrame(c, data)`: accept, duplicate, or out of sequence (R260, R261, R263). -/
def State.dataFrame (frmNum : Seq) (rFlag : Bool) (payload : List Byte) (s : State) : State :=
  if frmNum = s.frmRx then s.acceptData payload
  else if rFlag then { s.countDuplicate with ackPending := true }
  else s.outOfSequence

/-- `nakFrame()` (R264). -/
def State.nakFrame (s : State) : State :=
  if !s.retransmit && s.ackRx != s.frmTx then s.startRetransmit else s

/-! ### One rule per frame type (R250, R252, R256 to R271) -/

/-- A DATA frame: ignored before connection (R271), else range check, ack and sequence check (R256, R260). -/
def State.recvData (now : Time) (frmNum : Seq) (rFlag : Bool) (ackNum : Seq) (payload : List Byte) (s : State) : Result :=
  if !s.connected then .ok s
  else if !s.ackValid ackNum then .ok s.countBadAckNum.reject
  else
    match s.processAck ackNum now with
    | .error f => .error f
    | .ok s' => .ok (s'.dataFrame frmNum rFlag payload)

/-- An ACK frame (R256 to R259, R271); pFlag is ignored (R92). -/
def State.recvAck (now : Time) (_pFlag nFlag : Bool) (ackNum : Seq) (s : State) : Result :=
  if !s.connected then .ok s
  else if !s.ackValid ackNum then .ok s.countBadAckNum
  else { s with peerNotReady := nFlag }.processAck ackNum now

/-- A NAK frame (R256 to R258, R264, R271); pFlag is ignored (R92). -/
def State.recvNak (now : Time) (_pFlag nFlag : Bool) (ackNum : Seq) (s : State) : Result :=
  if !s.connected then .ok s
  else if !s.ackValid ackNum then .ok s.countBadAckNum
  else
    match { s with peerNotReady := nFlag }.processAck ackNum now with
    | .error f => .error f
    | .ok s' => .ok s'.nakFrame

/-- An RST frame is ignored (R265). -/
def State.recvRst (s : State) : State := s

/-- An RSTACK frame: fatal while connected (R266); before connection a wrong version is fatal (R268), the
awaited reply connects and any other is ignored (R269). -/
def State.recvRstack (version resetReason : Byte) (s : State) : State :=
  if s.connected then s.raiseFatal .ncpFatalError .ncpReset resetReason
  else if version ≠ ashVersion then s.raiseFatal .hostFatalError .version 0
  else if resetReason = resetReasonSoftware ∧ s.rstSent then s.connect
  else s

/-- An ERROR frame is fatal in any state; the version byte is not checked (R267). -/
def State.recvError (_version errorCode : Byte) (s : State) : State :=
  s.raiseFatal .ncpFatalError .ncpError errorCode

/-- A legal frame by its type (R250, last part). -/
def State.recvFrame (now : Time) (f : Frame) (s : State) : Result :=
  match f with
  | .data n r a d => s.recvData now n r a d
  | .ack p n a => s.recvAck now p n a
  | .nak p n a => s.recvNak now p n a
  | .rst => .ok s.recvRst
  | .rstack v r => .ok (s.recvRstack v r)
  | .error v e => .ok (s.recvError v e)

/-- The frame procedure `receiveFrame(raw, ovf, now)` (R250). -/
def State.receiveFrame (raw : List Byte) (ovf : Bool) (now : Time) (s : State) : Result :=
  match decodeRaw s.cfg raw ovf with
  | .ok f => s.recvFrame now f
  | .error r => .ok (s.frameRejected r)

/-- The raw frames of one chunk in order; those after a fatal one are discarded (R144, R175). -/
def State.receiveAll (now : Time) : List (List Byte × Bool) → State → Result
  | [], s => .ok s
  | (raw, ovf) :: frames, s =>
    if s.fatalStatus ≠ .none then .ok s
    else
      match s.receiveFrame raw ovf now with
      | .error f => .error f
      | .ok s' => State.receiveAll now frames s'

/-- `deframe(chunk)` on the state's deframer (R140): the raw frames and the state afterwards. -/
def State.deframe (chunk : List Byte) (s : State) : List (List Byte × Bool) × State :=
  let r := Deframer.chunk s.cfg.rawMax { held := s.partialBytes, overflow := s.partialOverflow } chunk
  (r.1, { s with partialBytes := r.2.held, partialOverflow := r.2.overflow })

end Sys2Proof.Machine
end

