-- ==== Sys2Proof/Machine/Timers.lean ====
section
/-!
DEFINITION. The timing functions of the tick (45_timers.md, 47_flow_control.md R293): the start timeout, the
ACK timeout, the not-ready refresh and the level rule of the ACK timer. Each compares a start stamp
with the `now` of the current command only (R239).
-/

namespace Sys2Proof.Machine

/-- Start timeout (R240). A fatal entry shows in `fatalStatus`. -/
def State.startTimeoutCheck (now : Time) (s : State) : State :=
  if s.startPending && decide (startTimeout ≤ elapsed now s.startTime) then
    s.raiseFatal .hostFatalError .resetFail 0
  else s

/-- The counting of one ACK timeout: the consecutive count, counter 9 and the doubled period (R236). -/
def State.countTimeout (s : State) : State :=
  { s with
      timeouts := s.timeouts + 1
      counters := { s.counters with ackTimeouts := s.counters.ackTimeouts + 1 }
      ackPeriod := doubledPeriod s.ackPeriod }

/-- ACK timeout check: at most one timeout is taken (R236, R346). -/
def State.ackTimeoutCheck (now : Time) (s : State) : State :=
  if s.connected && s.ackTimer.expired now s.ackPeriod.toNat then
    if maxTimeouts ≤ s.countTimeout.timeouts.toNat then
      s.countTimeout.raiseFatal .hostFatalError .timeouts 0
    else (s.countTimeout.startRetransmit).ackTimerStart now
  else s

/-- Not-ready timer check (R293). -/
def State.nrTimerCheck (now : Time) (s : State) : State :=
  if s.connected && s.nrTimer.expired now s.cfg.nrRefresh then { s with ackPending := true }.nrTimerStop
  else s

/-- Level rule of the ACK timer (R235). -/
def State.ackTimerLevel (now : Time) (s : State) : State :=
  if s.connected && s.ackRx != s.frmTx && !s.ackTimer.running then s.ackTimerStart now else s

end Sys2Proof.Machine
end

