-- ==== Sys2Proof/Machine/Send.lean ====
section
/-!
DEFINITION. The ARQ send state machine and the retransmission queue controller (44_send.md): selection of
the next frame by fixed priority, its snapshot in `txFrame`, emission under the transport budget, and
the tick `sendExec`.
-/

namespace Sys2Proof.Machine

/-- What selection did (R202): nothing, the CANCEL byte emitted (R203), or a frame picked. -/
inductive Selected where
  | nothing
  | cancel (s : State)
  | picked (s : State)
deriving DecidableEq, Repr

/-- Row 1: the CANCEL byte (R203). -/
def State.emitCancel (s : State) : State := { s.emit cancelByte with cancelPending := false }

/-- Row 2: the RST frame (R204). -/
def State.pickRst (s : State) : State :=
  { s with
      txFrame := encodeFrame rstControl []
      txKind := .rst
      sendState := .sendingShortFrame
      rstPending := false }

/-- Row 3: NAK before ACK, naming `frmRx`, with nFlag = `notReady` and pFlag 0; one NAK answers a pending
ACK as well (R205, R92). -/
def State.pickAck (now : Time) (s : State) : State :=
  let s₁ : State :=
    { s with
        txFrame := encodeFrame
          (if s.nakPending then nakControl false s.notReady s.frmRx else ackControl false s.notReady s.frmRx) []
        txKind := if s.nakPending then .nak else .ack
        sendState := .sendingShortFrame
        ackTx := s.frmRx
        nakPending := false
        ackPending := false }
  if s₁.notReady && !s₁.nrTimer.running then s₁.nrTimerStart now else s₁

/-- Row 4: retransmission of frame `frmReTx`, with rFlag set and the current `frmRx` (R206); the buffer is
looked up by `dist8(ackRx, frmReTx)` from the front (R165). -/
def State.pickReData (s : State) : Result :=
  match peekNth s.reTxQueue (dist8 s.ackRx s.frmReTx) with
  | .error f => .error f
  | .ok h =>
    .ok { s with
      txFrame := encodeFrame (dataControl s.frmReTx true s.frmRx) (s.txBuffers.read h)
      txKind := .redata
      sendState := .resendingData
      ackTx := s.frmRx
      frmReTx := inc8 s.frmReTx
      retransmit := if inc8 s.frmReTx = s.frmTx then false else s.retransmit }

/-- Row 5: the fresh DATA frame of handle `h`, the front of `txQueue`; it moves to the back of `reTxQueue`
(R207, R161). -/
def State.pickData (h : Nat) (rest : List Nat) (s : State) : State :=
  { s with
      txQueue := rest
      reTxQueue := s.reTxQueue ++ [h]
      txFrame := encodeFrame (dataControl s.frmTx false s.frmRx) (s.txBuffers.read h)
      txKind := .data
      sendState := .sendingData
      ackTx := s.frmRx
      frmTx := inc8 s.frmTx }

/-- The window is open: fewer than `TX_K` frames are outstanding (R207). -/
def State.windowOpen (s : State) : Bool := decide (dist8 s.ackRx s.frmTx < s.cfg.txK)

/-- `select(now)`: the first row whose condition holds (R202 to R208). -/
def State.select (now : Time) (s : State) : Except Fault Selected :=
  if s.cancelPending then .ok (.cancel s.emitCancel)
  else if s.rstPending then .ok (.picked s.pickRst)
  else if s.connected && (s.nakPending || s.ackPending) then .ok (.picked (s.pickAck now))
  else if s.connected && s.retransmit then
    match s.pickReData with
    | .ok s' => .ok (.picked s')
    | .error f => .error f
  else if s.connected && s.windowOpen then
    match s.txQueue with
    | h :: rest => .ok (.picked (s.pickData h rest))
    | [] => .ok .nothing
  else .ok .nothing

/-- `frameDone()` (R209). -/
def State.frameDone (s : State) : State :=
  { s with rstSent := if s.txKind = .rst then true else s.rstSent, txKind := .none, sendState := .idle }

/-- Emit the next byte of the frame in progress; the last one completes the frame (R200, R201). -/
def State.emitNext (s : State) : State :=
  match s.txFrame with
  | [] => s
  | [b] => { s.emit b with txFrame := [] }.frameDone
  | b :: b' :: rest => { s.emit b with txFrame := b' :: rest }

/-- The emit-and-select loop of the tick with a byte budget (R200). A picked frame is never empty (R121),
so its first byte goes out under the same unit of budget that allowed the selection (log entry 17: safe). -/
def State.sendLoop (now : Time) : Nat → State → Result
  | 0, s => .ok s
  | space + 1, s =>
    if s.txFrame = [] then
      match s.select now with
      | .error f => .error f
      | .ok .nothing => .ok s
      | .ok (.cancel s') => State.sendLoop now space s'
      | .ok (.picked s') => State.sendLoop now space s'.emitNext
    else State.sendLoop now space s.emitNext

/-- The part of the tick after the three timer checks (R200): the loop, then the level rule of the ACK timer. -/
def State.sendFrames (now : Time) (space : Space) (s : State) : Result :=
  match s.sendLoop now space.toNat with
  | .error f => .error f
  | .ok s' => .ok (s'.ackTimerLevel now)

/-- The tick `sendExec(now, space)` (R200). -/
def State.sendExec (now : Time) (space : Space) (s : State) : Result :=
  if !s.active || s.fatalStatus ≠ .none then .ok s
  else
    let s₁ := s.startTimeoutCheck now
    if s₁.fatalStatus ≠ .none then .ok s₁
    else
      let s₂ := s₁.ackTimeoutCheck now
      if s₂.fatalStatus ≠ .none then .ok s₂
      else (s₂.nrTimerCheck now).sendFrames now space

end Sys2Proof.Machine
end

