-- ==== Sys2Proof/Machine/Commands.lean ====
section
/-!
DEFINITION. The meanings of the eleven commands (43_commands.md), one definition each. A meaning starts the
response, runs the command's rule and returns its status.
-/

namespace Sys2Proof.Machine

/-- Run a live-only body: an inactive block answers NOT_CONNECTED and a fatal one the latched status, both
with no other effect; else the body runs and the status is that of the latch afterwards (R175, R176, R307). -/
def State.whenLive (body : State → Result) (s : State) : Result :=
  if !s.active then .ok (s.respond .notConnected)
  else if s.fatalStatus ≠ .none then .ok (s.respond s.fatalStatus.toStatus)
  else
    match body s with
    | .error f => .error f
    | .ok s' => .ok (s'.respond s'.fatalStatus.toStatus)

/-- START (R171). -/
def execStart (now : Time) (space : Space) (s : State) : Host.Outcome State Fault Refusal :=
  Result.outcome <|
    match s.beginResponse.arm with
    | .error f => .error f
    | .ok s₁ =>
      match { s₁ with startPending := true, startTime := now }.sendExec now space with
      | .error f => .error f
      | .ok s₂ => .ok (s₂.respond .pending)

/-- STOP (R172). -/
def execStop (s : State) : Host.Outcome State Fault Refusal :=
  Result.outcome <|
    match (s.beginResponse.endStart .hostFatalError).teardown with
    | .error f => .error f
    | .ok s₁ => .ok ({ s₁ with active := false }.respond .success)

/-- RESET_NCP (R173): `startPending` and `startTime` are kept, nothing is emitted (R340). -/
def execResetNcp (s : State) : Host.Outcome State Fault Refusal :=
  Result.outcome <|
    match s.beginResponse.arm with
    | .error f => .error f
    | .ok s₁ => .ok (s₁.respond .success)

/-- An accepted SEND with its handle: the payload is randomized into the buffer and queued, then the tick runs;
the status is SUCCESS even when the tick latches a fatal error (R174). -/
def State.sendAccepted (now : Time) (space : Space) (payload : List Byte) (h : Nat) (s : State) : Result :=
  match { s with
      txBuffers := s.txBuffers.write h (randomize payload)
      txQueue := s.txQueue ++ [h] }.sendExec now space with
  | .error f => .error f
  | .ok s' => .ok (s'.respond .success)

/-- SEND (R174): the checks in the order of the rule. -/
def execSend (now : Time) (space : Space) (payload : List Byte) (s : State) : Host.Outcome State Fault Refusal :=
  Result.outcome <|
    let s := s.beginResponse
    if s.fatalStatus ≠ .none then .ok (s.respond s.fatalStatus.toStatus)
    else if payload.length < s.cfg.minDataLen then .ok (s.respond .dataFrameTooShort)
    else if s.cfg.maxDataLen < payload.length then .ok (s.respond .dataFrameTooLong)
    else if !s.connected then .ok (s.respond .notConnected)
    else
      match s.txAllocate with
      | none => .ok (s.respond .noTxSpace)
      | some (h, s₁) => s₁.sendAccepted now space payload h

/-- RX_CHUNK (R175): the whole chunk is deframed, its raw frames are received in order, then one tick runs. -/
def execRxChunk (now : Time) (space : Space) (chunk : List Byte) (s : State) : Host.Outcome State Fault Refusal :=
  Result.outcome <| s.beginResponse.whenLive fun s =>
    match (s.deframe chunk).2.receiveAll now (s.deframe chunk).1 with
    | .error f => .error f
    | .ok s' => s'.sendExec now space

/-- TICK (R176). -/
def execTick (now : Time) (space : Space) (s : State) : Host.Outcome State Fault Refusal :=
  Result.outcome <| s.beginResponse.whenLive fun s => s.sendExec now space

/-- RX_POP (R177): works in every state. -/
def execRxPop (s : State) : Host.Outcome State Fault Refusal :=
  Result.outcome <|
    let s := s.beginResponse
    match s.rxQueue with
    | [] => .ok (s.respond .noRxData)
    | h :: q =>
      match ({ s with rxQueue := q }.setValue (.bytes (s.rxBuffers.read h))).rxFree h with
      | .error f => .error f
      | .ok s' => .ok (s'.nrEval.respond .success)

/-- IS_CONNECTED (R178). -/
def execIsConnected (s : State) : Host.Outcome State Fault Refusal :=
  .next ((s.beginResponse.setValue (.bool s.connected)).respond .success)

/-- IS_IDLE (R180). -/
def execIsIdle (s : State) : Host.Outcome State Fault Refusal :=
  .next ((s.beginResponse.setValue (.bool s.quiescent)).respond .success)

/-- COUNTERS_READ (R181). -/
def execCountersRead (s : State) : Host.Outcome State Fault Refusal :=
  .next ((s.beginResponse.setValue (.counters s.counters.toList)).respond .success)

/-- COUNTERS_CLEAR (R182). -/
def execCountersClear (s : State) : Host.Outcome State Fault Refusal :=
  .next ({ s.beginResponse with counters := Counters.zero }.respond .success)

end Sys2Proof.Machine
end

