-- ==== Sys2Proof/Machine/Frames.lean ====
section
/-!
DEFINITION. The meanings of the six frame rows of the opcode table (46_receive.md), one definition each: one
frame handed to the receive machine, as RX_CHUNK hands it each frame of a chunk (R144, R175; log entry
4). An inactive or fatal block discards it with the status RX_CHUNK gives (R175); else the frame's rule
runs, nothing is emitted, and the status is that of the fatal latch.
-/

namespace Sys2Proof.Machine

/-- A DATA frame (R260). A payload outside the legal length is the illegal-length frame of R253 (log entry 12). -/
def execData (now : Time) (frmNum : Seq) (rFlag : Bool) (ackNum : Seq) (payload : List Byte) (s : State) :
    Host.Outcome State Fault Refusal :=
  Result.outcome <| s.beginResponse.whenLive fun s =>
    if lengthOk s.cfg .data (1 + payload.length) then s.recvData now frmNum rFlag ackNum payload
    else .ok (s.frameRejected (.illegal (dataControl frmNum rFlag ackNum) payload))

/-- An ACK frame (R259). -/
def execAck (now : Time) (pFlag nFlag : Bool) (ackNum : Seq) (s : State) : Host.Outcome State Fault Refusal :=
  Result.outcome <| s.beginResponse.whenLive fun s => s.recvAck now pFlag nFlag ackNum

/-- A NAK frame (R264). -/
def execNak (now : Time) (pFlag nFlag : Bool) (ackNum : Seq) (s : State) : Host.Outcome State Fault Refusal :=
  Result.outcome <| s.beginResponse.whenLive fun s => s.recvNak now pFlag nFlag ackNum

/-- An RST frame (R265). -/
def execRst (s : State) : Host.Outcome State Fault Refusal :=
  Result.outcome <| s.beginResponse.whenLive fun s => .ok s.recvRst

/-- An RSTACK frame (R266, R268, R269). -/
def execRstack (version resetReason : Byte) (s : State) : Host.Outcome State Fault Refusal :=
  Result.outcome <| s.beginResponse.whenLive fun s => .ok (s.recvRstack version resetReason)

/-- An ERROR frame (R267). -/
def execError (version errorCode : Byte) (s : State) : Host.Outcome State Fault Refusal :=
  Result.outcome <| s.beginResponse.whenLive fun s => .ok (s.recvError version errorCode)

/-- An input the decoder rejects still has the effect the spec gives it: a reserved opcode answers
BAD_COMMAND and changes nothing (R93, R179); a rejected raw frame is counted, rejected, fatal or ignored
(R251, R253), under the same conditions as a frame. -/
def execRejected (e : DecodeError) (s : State) : Host.Outcome State Fault Refusal :=
  Result.outcome <|
    match e with
    | .reservedOpcode _ => .ok (s.beginResponse.respond .badCommand)
    | .frame r => s.beginResponse.whenLive fun s => .ok (s.frameRejected r)

end Sys2Proof.Machine
end

