-- ==== Sys2Proof/Machine/Dispatch.lean ====
section
/-! DEFINITION. The dispatch of each instruction to its meaning, one arm per row of spec/opcode_table.json. -/

namespace Sys2Proof.Machine

def exec (i : Instr) (s : State) : Host.Outcome State Fault Refusal :=
  match i with
  | .start now space => Sys2Proof.Machine.execStart now space s
  | .stop => Sys2Proof.Machine.execStop s
  | .resetNcp => Sys2Proof.Machine.execResetNcp s
  | .send now space payload => Sys2Proof.Machine.execSend now space payload s
  | .rxChunk now space chunk => Sys2Proof.Machine.execRxChunk now space chunk s
  | .tick now space => Sys2Proof.Machine.execTick now space s
  | .rxPop => Sys2Proof.Machine.execRxPop s
  | .isConnected => Sys2Proof.Machine.execIsConnected s
  | .isIdle => Sys2Proof.Machine.execIsIdle s
  | .countersRead => Sys2Proof.Machine.execCountersRead s
  | .countersClear => Sys2Proof.Machine.execCountersClear s
  | .data now frmNum rFlag ackNum payload => Sys2Proof.Machine.execData now frmNum rFlag ackNum payload s
  | .ack now pFlag nFlag ackNum => Sys2Proof.Machine.execAck now pFlag nFlag ackNum s
  | .nak now pFlag nFlag ackNum => Sys2Proof.Machine.execNak now pFlag nFlag ackNum s
  | .rst => Sys2Proof.Machine.execRst s
  | .rstack version resetReason => Sys2Proof.Machine.execRstack version resetReason s
  | .error version errorCode => Sys2Proof.Machine.execError version errorCode s

end Sys2Proof.Machine
end

