-- ==== Sys2Proof/Machine/Fetch.lean ====
section
/-!
DEFINITION. Taking the next input: the block accepts one command at a time, in the order issued
(10_state.md R20, 20_memory.md R69), and waits when there is none (70_reset_and_hazards.md R332).
-/

namespace Sys2Proof.Machine

/-- The oldest waiting input, and the state with it taken. -/
def State.fetch (s : State) : Option (Input × State) :=
  match s.input with
  | [] => none
  | i :: rest => some (i, { s with input := rest })

/-- The state with an input put where `fetch` takes the next one. -/
def State.offer (i : Input) (s : State) : State := { s with input := i :: s.input }

end Sys2Proof.Machine
end

