-- ==== Sys2Proof/Machine/Step.lean ====
section
/-!
DEFINITION. One step of the block: take the oldest input, decode it, and run the instruction (or, for an input
that is no instruction, the effect the spec gives it). With no input the block waits. A configuration
outside 00_scope.md R8, R9 is refused.
-/

namespace Sys2Proof.Machine

/-- One step: one command, run to completion (R20, R66), or one raw frame (log entry 4). With no input the
state stays as it is (R332; log entry 8). A configuration that is not valid is refused (R9; log entry 9). -/
def step (s : State) : Host.Outcome State Fault Refusal :=
  if s.cfg.valid then
    match s.fetch with
    | none => .next s
    | some (i, s') =>
      match decode s.cfg i with
      | .ok instr => exec instr s'
      | .error e => execRejected e s'
  else .refused .badConfiguration

/-- `s` with the instruction of an opcode-table word as its next input (log entry 5). -/
def State.withFetchWord (s : State) (_nbits w : Nat) : State := s.offer (tableInput s.cfg w)

end Sys2Proof.Machine
end

