-- ==== Sys2Proof/Safety.lean ====
section
/-!
DEFINITION. What a safe state and a safe step are, in the terms the claims use: the invariants the spec
states of reachable states (10_state.md R26, R27, R28, R32, R35, R36; 42_buffers.md R167; 60_exceptions.md
R307), each as a decidable predicate of the state, and their conjunction `State.Inv`.
-/

namespace Sys2Proof.Machine

/-- Every transmit handle is on exactly one of `txFreeList`, `txQueue`, `reTxQueue` (R35, R167). -/
abbrev State.txOwned (s : State) : Prop :=
  (s.txFreeList ++ s.txQueue ++ s.reTxQueue).Perm (List.range s.cfg.txPoolSize)

/-- Every receive handle is on exactly one of `rxFreeList`, `rxQueue` (R35, R167). -/
abbrev State.rxOwned (s : State) : Prop :=
  (s.rxFreeList ++ s.rxQueue).Perm (List.range s.cfg.rxPoolSize)

/-- Every buffer handle has exactly one owner (R35, R167). -/
abbrev State.owned (s : State) : Prop := s.txOwned ∧ s.rxOwned

/-- The sequence state while connected (R26 (a) to (e)). -/
abbrev State.sequenceInv (s : State) : Prop :=
  s.connected = true →
    s.reTxQueue.length = dist8 s.ackRx s.frmTx ∧
    dist8 s.ackRx s.frmTx ≤ s.cfg.txK ∧
    within s.ackRx s.frmReTx s.frmTx = true ∧
    (s.retransmit = true → s.frmReTx ≠ s.frmTx) ∧
    (s.ackTimer.running = true ↔ s.ackRx ≠ s.frmTx)

/-- The send machine is idle exactly when no frame is in progress, and `txFrame` keeps its bound (R27, R28). -/
abbrev State.sendInv (s : State) : Prop :=
  (s.sendState = .idle ↔ s.txFrame = []) ∧ (s.txKind = .none ↔ s.txFrame = []) ∧
  (s.sendState = .sendingData ↔ s.txKind = .data) ∧ (s.sendState = .resendingData ↔ s.txKind = .redata) ∧
  s.txFrame.length ≤ 2 * s.cfg.maxFrameLen + 1

/-- The buffer memories are in canonical form and no buffer holds more than `BUF_SIZE` bytes (R33). -/
abbrev State.memoryInv (s : State) : Prop :=
  s.txBuffers.wf ∧ s.rxBuffers.wf ∧
  (∀ e ∈ s.txBuffers, e.2.length ≤ s.cfg.bufSize) ∧ (∀ e ∈ s.rxBuffers, e.2.length ≤ s.cfg.bufSize)

/-- The deframer's register keeps its bound, says when it overflowed, and holds no FLAG and no CANCEL (R36,
R141 to R143). -/
abbrev State.deframerInv (s : State) : Prop :=
  s.partialBytes.length ≤ s.cfg.rawMax ∧ (s.partialOverflow = true → s.partialBytes.length = s.cfg.rawMax) ∧
  flagByte ∉ s.partialBytes ∧ cancelByte ∉ s.partialBytes

/-- The ACK period and the timeout count keep their ranges (R32); the last allowed timeout is fatal (R236, R238). -/
abbrev State.timerInv (s : State) : Prop :=
  ackTimeMin ≤ s.ackPeriod.toNat ∧ s.ackPeriod.toNat ≤ ackTimeMax ∧ s.timeouts.toNat ≤ maxTimeouts ∧
  (s.fatalStatus = .none → s.timeouts.toNat < maxTimeouts)

/-- A connected session is active, not fatal, and waits for no reset (R23, R270, R306, R331). -/
abbrev State.connectedInv (s : State) : Prop :=
  s.connected = true →
    s.active = true ∧ s.fatalStatus = .none ∧ s.startPending = false ∧ s.cancelPending = false ∧ s.rstPending = false

/-- Without a session nothing of one is pending (R306, R331). -/
abbrev State.disconnectedInv (s : State) : Prop :=
  s.connected = false →
    s.ackPending = false ∧ s.nakPending = false ∧ s.retransmit = false ∧ s.ackTimer.running = false ∧
    s.nrTimer.running = false ∧
    (s.fatalStatus = .none → s.txQueue = [] ∧ s.reTxQueue = [] ∧ s.rxQueue = [])

/-- The fatal latch: what holds while it is set, and its value while it is not (R31, R306, R307). -/
abbrev State.fatalInv (s : State) : Prop :=
  (s.fatalStatus ≠ .none →
    s.active = true ∧ s.connected = false ∧ s.startPending = false ∧ s.txFrame = [] ∧ s.cancelPending = false ∧
    s.rstPending = false ∧ s.fatalCode ≠ .none) ∧
  (s.fatalStatus = .none → s.fatalCode = .none ∧ s.fatalInfo = 0)

/-- An inactive block waits for no reset and has nothing to send (R331, R332). -/
abbrev State.inactiveInv (s : State) : Prop :=
  s.active = false →
    s.startPending = false ∧ s.txFrame = [] ∧ s.cancelPending = false ∧ s.rstPending = false ∧ s.notReady = false

/-- Not-ready flow control: the refresh timer runs only while not ready, and an active block's `notReady`
agrees with the watermarks outside the hysteresis band (R290 to R292). -/
abbrev State.flowInv (s : State) : Prop :=
  (s.nrTimer.running = true → s.notReady = true) ∧
  (s.active = true → s.rxFreeList.length < rxLowWatermark → s.notReady = true) ∧
  (s.active = true → rxHighWatermark < s.rxFreeList.length → s.notReady = false)

/-- What every state a run reaches satisfies. -/
structure State.Inv (s : State) : Prop where
  valid : s.cfg.valid = true
  owned : s.owned
  sequence : s.sequenceInv
  send : s.sendInv
  memory : s.memoryInv
  deframer : s.deframerInv
  timer : s.timerInv
  connected : s.connectedInv
  disconnected : s.disconnectedInv
  fatal : s.fatalInv
  inactive : s.inactiveInv
  flow : s.flowInv

/-! ### Words the statements share -/

/-- A response that holds a status and nothing else. -/
def Response.bare (st : Status) : Response := { status := st, out := [], events := [], value := .empty }

/-- The byte budget an instruction gives the block: its `space`, or 0 for one that has none (R87, R184). -/
def instrBudget : Instr → Nat
  | .start _ space => space.toNat
  | .send _ space _ => space.toNat
  | .rxChunk _ space _ => space.toNat
  | .tick _ space => space.toNat
  | .stop => 0
  | .resetNcp => 0
  | .rxPop => 0
  | .isConnected => 0
  | .isIdle => 0
  | .countersRead => 0
  | .countersClear => 0
  | .data _ _ _ _ _ => 0
  | .ack _ _ _ _ => 0
  | .nak _ _ _ _ => 0
  | .rst => 0
  | .rstack _ _ => 0
  | .error _ _ => 0

/-- The block takes traffic: it is active and the fatal latch is clear (R175, R176). -/
abbrev State.live (s : State) : Prop := s.active = true ∧ s.fatalStatus = .none

/-- No timer of the tick is due at `now` (R231, R240, R293). -/
abbrev State.noTimerDue (now : Time) (s : State) : Prop :=
  (s.startPending = true → elapsed now s.startTime < 2500) ∧
  (s.connected = true → s.ackTimer.running = true → elapsed now s.ackTimer.start < s.ackPeriod.toNat) ∧
  (s.connected = true → s.nrTimer.running = true → elapsed now s.nrTimer.start < s.cfg.nrRefresh)

/-- What the columns "arm" and "teardown" of the table of R331 have in common, written out: queues drained
in the order of R164, deframer and session cleared, fatal latch cleared, timers stopped. -/
def State.resetColumn (s : State) : State :=
  { s with
      connected := false
      frmTx := 0
      frmRx := 0
      ackRx := 0
      ackTx := 0
      frmReTx := 0
      sendState := .idle
      txFrame := []
      txKind := .none
      cancelPending := false
      rstPending := false
      rstSent := false
      ackPending := false
      nakPending := false
      rejectCond := false
      retransmit := false
      notReady := false
      peerNotReady := false
      fatalStatus := .none
      fatalCode := .none
      fatalInfo := 0
      ackTimer := { running := false, start := s.ackTimer.start }
      ackPeriod := 800#12
      timeouts := 0
      nrTimer := { running := false, start := s.nrTimer.start }
      txFreeList := s.txFreeList ++ s.reTxQueue ++ s.txQueue
      rxFreeList := s.rxFreeList ++ s.rxQueue
      txQueue := []
      reTxQueue := []
      rxQueue := []
      partialBytes := []
      partialOverflow := false }

/-- The column "fatal" of the table of R331, written out, for a fatal error with this status, code and info. -/
def State.fatalColumn (status : FatalStatus) (code : FatalCode) (info : Byte) (s : State) : State :=
  { s with
      connected := false
      startPending := false
      sendState := .idle
      txFrame := []
      txKind := .none
      cancelPending := false
      rstPending := false
      ackPending := false
      nakPending := false
      retransmit := false
      fatalStatus := status
      fatalCode := code
      fatalInfo := info
      ackTimer := { running := false, start := s.ackTimer.start }
      nrTimer := { running := false, start := s.nrTimer.start } }

/-- The column "connect" of the table of R331, written out. -/
def State.connectColumn (s : State) : State :=
  { s with
      connected := true
      startPending := false
      frmTx := 0
      frmRx := 0
      ackRx := 0
      ackTx := 0
      frmReTx := 0
      cancelPending := false
      rstPending := false
      ackPending := true
      nakPending := false
      rejectCond := false
      retransmit := false
      ackTimer := { running := false, start := s.ackTimer.start }
      timeouts := 0
      counters := Counters.zero }

/-- The events a fatal entry signals: FATAL, then the end of a START that waits (R304, R306). -/
def State.fatalEvents (status : Status) (code : FatalCode) (info : Byte) (s : State) : List Event :=
  if s.startPending then [.fatal status code info, .startDone .hostFatalError] else [.fatal status code info]

/-- A first decoded byte is there and is a DATA control byte (R254). -/
def looksLikeData : List Byte → Bool
  | [] => false
  | c :: _ => decide (c.toNat < 0x80)

/-- `notReady` for a free count `f` (R291). -/
def notReadyAt (f : Nat) (old : Bool) : Bool :=
  if f < 8 then true else if 12 < f then false else old

/-- What not-ready evaluation leaves when the receive free count is `f` (R291, R292). -/
def State.flowColumn (f : Nat) (s : State) : State :=
  { s with
      notReady := notReadyAt f s.notReady
      nrTimer := if s.notReady && !notReadyAt f s.notReady then { running := false, start := s.nrTimer.start }
        else s.nrTimer
      ackPending := s.ackPending || (s.notReady && !notReadyAt f s.notReady && s.connected) }

/-- The event is a FATAL event. -/
def Event.isFatal : Event → Bool
  | .fatal _ _ _ => true
  | .frame => false
  | .startDone _ => false

/-- The registers no response ever shows, `ackTx` and `peerNotReady`, blanked (R40). -/
def State.hideUnobserved (s : State) : State := { s with ackTx := 0, peerNotReady := false }

/-- Two outcomes are the same to an observer that sees a state through `view`. -/
def agreeThrough (view : State → State) : Host.Outcome State Fault Refusal → Host.Outcome State Fault Refusal → Prop
  | .next a, .next b => view a = view b
  | .fault a, .fault b => a = b
  | .refused a, .refused b => a = b
  | .next _, .fault _ => False
  | .next _, .refused _ => False
  | .fault _, .next _ => False
  | .fault _, .refused _ => False
  | .refused _, .next _ => False
  | .refused _, .fault _ => False

/-- Items run one after another, each by `run`, until one is fatal and the rest are discarded (R144, R175): the state
they leave and the events of all of them in order; none when one of them stops. -/
def runInTurn {α : Type} (run : α → State → Host.Outcome State Fault Refusal) :
    List α → State → Option (State × List Event)
  | [], s => some (s, [])
  | a :: as, s =>
    if s.fatalStatus ≠ .none then some (s, [])
    else
      match run a s with
      | .next t => (runInTurn run as t).map fun r => (r.1, t.resp.events ++ r.2)
      | .fault _ => none
      | .refused _ => none

/-- Frames handed to the receive machine one after another, each by its own instruction. -/
def execFrames (now : Time) : List Frame → State → Option (State × List Event) :=
  runInTurn fun f => exec (Instr.ofFrame now f)

/-- Raw frames, with their overflow bits, handed to the receive machine one after another, each by a step of its own,
the rejected ones among them. -/
def stepRawFrames (now : Time) : List (List Byte × Bool) → State → Option (State × List Event) :=
  runInTurn fun raw s => step (s.offer (.rawFrame raw.1 raw.2 now))

/-- The decoded bytes of a raw frame before any length bound, from an escape flag: SUBSTITUTE, XON and XOFF add nothing
and leave the flag, ESCAPE sets it, any other byte is one decoded byte and clears it (R125, R126, R128, R129). -/
def unstuffed : Bool → List Byte → List Byte
  | _, [] => []
  | esc, b :: bs =>
    if b = 0x18#8 ∨ b = 0x11#8 ∨ b = 0x13#8 then unstuffed esc bs
    else if b = 0x7D#8 then unstuffed true bs
    else (if esc then b ^^^ 0x20#8 else b) :: unstuffed false bs

/-- A control byte and `n` data bytes are a legal frame: the value and length columns of 30_encoding.md §1 (R80, R85). -/
abbrev legalFrame (cfg : Config) (c : Byte) (n : Nat) : Prop :=
  (c.toNat ≤ 0x7F ∧ cfg.minDataLen ≤ n ∧ n ≤ cfg.maxDataLen) ∨ (0x80 ≤ c.toNat ∧ c.toNat ≤ 0xC0 ∧ n = 0) ∨
    ((c.toNat = 0xC1 ∨ c.toNat = 0xC2) ∧ n = 2)

/-- The reDATA frames that resend `n` outstanding frames from number `k` on, whose buffers are `handles`, each
with rFlag set and the same `ackNum` (R206). -/
def reDataWires (read : Nat → List Byte) (ackNum : Seq) : Seq → List Nat → List Byte
  | _, [] => []
  | k, h :: hs => encodeFrame (dataControl k true ackNum) (read h) ++ reDataWires read ackNum (k + 1) hs

/-- The ACK timer after a tick at `now` (R235). -/
def State.levelled (now : Time) (s : State) : Timer :=
  if s.connected && s.ackRx != s.frmTx && !s.ackTimer.running then { running := true, start := now } else s.ackTimer

end Sys2Proof.Machine
end

