-- ==== Sys2Proof/Certificates/Slice0/Obligations.lean ====
section
/-!
DEFINITION. The statements for the provers, each `def Obligations.<Name> : Prop`. The rules they formalise
are cited in their docstrings and in OBLIGATIONS.json.
-/

open Sys2Proof Sys2Proof.Machine

/-! ### The step -/

/-- A step takes the first of the waiting inputs and, when it decodes to an instruction, is `exec` of that
instruction on the state with the input taken; nothing else happens around it, each instruction being one atomic
step (20_memory.md R66, 10_state.md R20). That inputs wait in a list whose oldest is taken is the model's own choice
(log entry 2), and so is a raw frame as an input (log entry 4). -/
def Obligations.StepRunsDecodedInstruction : Prop :=
  ∀ (s : State) (i : Input) (rest : List Input) (instr : Instr),
    s.cfg.valid = true → s.input = i :: rest → decode s.cfg i = .ok instr →
    step s = exec instr { s with input := rest }

/-- Offering the encoding of a well-formed instruction makes the next step run that instruction, and leaves the
state it runs on as it was. The encodings are those of 30_encoding.md; offering an input at the front of the list of
waiting ones (log entry 2), a frame as a step of its own (log entry 4) and unused operands written as 0 (log entry
18) are the model's own choices. -/
def Obligations.StepRunsEncodedInstruction : Prop :=
  ∀ (s : State) (instr : Instr), s.cfg.valid = true → instr.wellFormed s.cfg = true →
    step (s.offer (encode instr)) = exec instr s

/-- With no input the block does nothing (70_reset_and_hazards.md R332; the model's reading, log entry 8), and a
configuration is refused exactly when it breaks a constraint of 00_scope.md R8 or R9 (log entry 9). -/
def Obligations.StepWaitsOrRefuses : Prop :=
  (∀ s : State, s.cfg.valid = true → s.input = [] → step s = .next s) ∧
  (∀ s : State, (∃ r, step s = .refused r) ↔
    ¬ (1 ≤ s.cfg.txK ∧ s.cfg.txK ≤ 7 ∧ 1 ≤ s.cfg.minDataLen ∧ s.cfg.minDataLen ≤ s.cfg.maxDataLen ∧
        s.cfg.maxDataLen + 3 ≤ s.cfg.maxFrameLen ∧ 1 ≤ s.cfg.txPoolSize ∧ 1 ≤ s.cfg.rxPoolSize ∧
        1 ≤ s.cfg.nrRefresh))

/-- R93 (the spec's decision D2): a command with a reserved opcode changes no state, emits nothing, signals nothing
and returns BAD_COMMAND. -/
def Obligations.ReservedOpcodeAnswersBadCommand : Prop :=
  ∀ (s : State) (c : CommandRecord) (rest : List Input),
    s.cfg.valid = true → s.input = .command c :: rest → (c.op = 0x00#8 ∨ 0x0C ≤ c.op.toNat) →
    step s = .next { s with input := rest, resp := { status := .badCommand, out := [], events := [], value := .empty } }

/-! ### Encodings -/

/-- Words written out from the encodings of 30_encoding.md and the vectors of 95_test_vectors.md decode to the
instructions they stand for. -/
def Obligations.SampleWordsDecode : Prop :=
  decode Config.tc (.command { op := 0x01#8, now := 7, space := 64, data := [] }) = .ok (.start 7 64) ∧
  decode Config.tc (.command { op := 0x04#8, now := 200, space := 64, data := [0, 0, 0, 4] }) =
    .ok (.send 200 64 [0, 0, 0, 4]) ∧
  decode Config.tc (.command { op := 0x0B#8, now := 0, space := 0, data := [] }) = .ok .countersClear ∧
  decode Config.tc (.rawFrame [0x81, 0x60, 0x59] false 300) = .ok (.ack 300 false false 1) ∧
  decode Config.tc (.rawFrame [0xA0, 0x54, 0x7D, 0x3A] false 250) = .ok (.nak 250 false false 0) ∧
  decode Config.tc (.rawFrame [0x7D, 0x31, 0x42, 0x21, 0xA8, 0x50, 0x43, 0x27] false 5) =
    .ok (.data 5 1 false 1 [0x42, 0x21, 0xA8, 0x50]) ∧
  decode Config.tc (.rawFrame [0xC0, 0x38, 0xBC] false 0) = .ok .rst ∧
  decode Config.tc (.rawFrame [0xC1, 0x02, 0x0B, 0x0A, 0x52] false 100) = .ok (.rstack 2 11) ∧
  decode Config.tc (.rawFrame [0xC2, 0x02, 0x51, 0xA8, 0xBD] false 50) = .ok (.error 2 0x51)

/-- Decode and encode agree: every well-formed instruction, with every operand at every value its encoding admits,
is what its encoding decodes to (30_encoding.md, 40_codec.md). -/
def Obligations.DecodeOfEncodeIsIdentity : Prop :=
  ∀ (cfg : Config) (i : Instr), cfg.valid = true → i.wellFormed cfg = true → decode cfg (encode i) = .ok i

/-- The stuffing round trip of 40_codec.md §5, under either value of `HW_FLOW_CONTROL`: decoding an encoded frame
without its FLAG gives the control byte and the data back. -/
def Obligations.DecodeFrameInvertsEncodeFrame : Prop :=
  ∀ (cfg : Config) (c : Byte) (d : List Byte), d.length + 3 ≤ cfg.maxFrameLen →
    encodeFrame c d = rawFrameOf c d ++ [0x7E] ∧ decodeFrame cfg (rawFrameOf c d) false = .ok c d

/-- R81, R82, R83: the fields of DATA, ACK and NAK control bytes are the bits the rules name, and the assembled
control bytes have those fields. -/
def Obligations.ControlByteFields : Prop :=
  (∀ c : Byte, (frmNumOf c).toNat = c.toNat / 16 % 8 ∧ (bit3Of c = true ↔ c.toNat / 8 % 2 = 1) ∧
    (bit4Of c = true ↔ c.toNat / 16 % 2 = 1) ∧ (ackNumOf c).toNat = c.toNat % 8) ∧
  (∀ (f a : Seq) (r : Bool),
    dataControl f r a = BitVec.ofNat 8 (f.toNat * 16 + (if r then 8 else 0) + a.toNat) ∧
    frmNumOf (dataControl f r a) = f ∧ bit3Of (dataControl f r a) = r ∧ ackNumOf (dataControl f r a) = a) ∧
  (∀ (a : Seq) (p n : Bool),
    ackControl p n a = BitVec.ofNat 8 (0x80 + (if p then 16 else 0) + (if n then 8 else 0) + a.toNat) ∧
    nakControl p n a = BitVec.ofNat 8 (0xA0 + (if p then 16 else 0) + (if n then 8 else 0) + a.toNat) ∧
    bit4Of (ackControl p n a) = p ∧ bit3Of (ackControl p n a) = n ∧ ackNumOf (ackControl p n a) = a ∧
    bit4Of (nakControl p n a) = p ∧ bit3Of (nakControl p n a) = n ∧ ackNumOf (nakControl p n a) = a)

/-- The frame type of every control byte, by the value column of the table of 30_encoding.md §1. -/
def Obligations.FrameTypeOfEveryControlByte : Prop :=
  ∀ c : Byte, frameType c =
    if c.toNat ≤ 0x7F then .data
    else if c.toNat ≤ 0x9F then .ack
    else if c.toNat ≤ 0xBF then .nak
    else if c.toNat = 0xC0 then .rst
    else if c.toNat = 0xC1 then .rstack
    else if c.toNat = 0xC2 then .error
    else .invalid

/-- R120: a reserved byte is stuffed as ESCAPE and the byte XOR 0x20, any other byte as itself; no stuffed byte
other than the leading ESCAPE is reserved. -/
def Obligations.StuffEscapesExactlyReserved : Prop :=
  (∀ b : Byte, stuff b =
    if b = 0x7E#8 ∨ b = 0x7D#8 ∨ b = 0x1A#8 ∨ b = 0x18#8 ∨ b = 0x11#8 ∨ b = 0x13#8 then [0x7D#8, b ^^^ 0x20#8] else [b]) ∧
  stuff 0x7E#8 = [0x7D#8, 0x5E#8] ∧ stuff 0x7D#8 = [0x7D#8, 0x5D#8] ∧ stuff 0x1A#8 = [0x7D#8, 0x3A#8] ∧
  stuff 0x18#8 = [0x7D#8, 0x38#8] ∧ stuff 0x11#8 = [0x7D#8, 0x31#8] ∧ stuff 0x13#8 = [0x7D#8, 0x33#8] ∧
  (∀ b x : Byte, x ∈ stuff b →
    (x = 0x7E#8 ∨ x = 0x7D#8 ∨ x = 0x1A#8 ∨ x = 0x18#8 ∨ x = 0x11#8 ∨ x = 0x13#8) →
    x = 0x7D#8 ∧ (stuff b).head? = some x ∧ (stuff b).length = 2)

/-- R117 (the spec's decision D11): `randomize` keeps the length and XORs byte `i` with the register after `i` steps
of the LFSR of R116 from the seed 0x42, so the first byte meets the seed itself; every call starts from the seed. -/
def Obligations.RandomizeXorsLfsrSequence : Prop :=
  (∀ d : List Byte, (randomize d).length = d.length ∧
    ∀ i, (randomize d)[i]? = d[i]?.map (· ^^^ lfsrAfter i)) ∧
  lfsrAfter 0 = 0x42#8 ∧ (∀ i, lfsrAfter (i + 1) = lfsrNext (lfsrAfter i)) ∧
  (∀ r : Byte, lfsrNext r = if r.toNat % 2 = 1 then (r >>> 1) ^^^ 0xB8#8 else r >>> 1) ∧
  randomize [0, 0, 0, 4] = [0x42, 0x21, 0xA8, 0x50]

/-- The LFSR sequence has period 255 and never reaches 0 (40_codec.md §2). -/
def Obligations.LfsrPeriodIs255 : Prop :=
  lfsrAfter 255 = 0x42#8 ∧ (∀ n, n < 255 → lfsrAfter n ≠ 0) ∧ (∀ n, n < 255 → 0 < n → lfsrAfter n ≠ 0x42#8)

/-- Randomization is its own inverse (40_codec.md §2). -/
def Obligations.RandomizeIsSelfInverse : Prop :=
  ∀ d : List Byte, randomize (randomize d) = d

/-- The two other forms of the CRC (40_codec.md §1): the table-driven form gives the same result as the shift form,
and a frame passes verification exactly when the CRC over all of it is 0. -/
def Obligations.CrcTableAndResidueForms : Prop :=
  (∀ (crc : Crc) (b : Byte), crcUpdate crc b = (crc <<< 8) ^^^ crcTable ((crc >>> 8).setWidth 8 ^^^ b)) ∧
  (∀ frame : List Byte, 3 ≤ frame.length → (crcOk frame = true ↔ crc16 frame = 0x0000#16))

/-- An error confined to one byte of a valid decoded frame, a single flipped bit in particular, fails the CRC check
(40_codec.md §5). -/
def Obligations.CrcDetectsOneByteErrors : Prop :=
  ∀ (frame : List Byte) (i : Nat) (e b : Byte), 3 ≤ frame.length → crcOk frame = true →
    frame[i]? = some b → e ≠ 0 → crcOk (frame.set i (b ^^^ e)) = false

/-- The shape of a wire frame (40_codec.md §3, 30_encoding.md §4): its length bounds, its single final FLAG, and no
CANCEL, SUBSTITUTE, XON, XOFF or inner FLAG. -/
def Obligations.WireFrameShape : Prop :=
  ∀ (c : Byte) (d : List Byte),
    d.length + 4 ≤ (encodeFrame c d).length ∧ (encodeFrame c d).length ≤ 2 * (d.length + 3) + 1 ∧
    (encodeFrame c d).getLast? = some 0x7E#8 ∧
    ∀ b ∈ (encodeFrame c d).dropLast, b ≠ 0x7E#8 ∧ b ≠ 0x1A#8 ∧ b ≠ 0x18#8 ∧ b ≠ 0x11#8 ∧ b ≠ 0x13#8

/-- XON and XOFF in a raw frame: without hardware flow control they are dropped as if they had not arrived; with it,
a frame that holds one and no CANCEL closes as the XON/XOFF error (40_codec.md §4). -/
def Obligations.XonXoffInDecoder : Prop :=
  (∀ (cfg : Config) (raw : List Byte) (ovf : Bool), cfg.hwFlowControl = false →
    decodeFrame cfg raw ovf = decodeFrame cfg (raw.filter fun b => b != 0x11#8 && b != 0x13#8) ovf) ∧
  (∀ (cfg : Config) (raw : List Byte) (ovf : Bool), cfg.hwFlowControl = true →
    (0x11#8 ∈ raw ∨ 0x13#8 ∈ raw) → 0x1A#8 ∉ raw → ∃ f, decodeFrame cfg raw ovf = .xonXoffError f)

/-- Without CANCELs, the raw frames delivered and the deframer's state do not depend on how the stream is split into
chunks (41_deframer.md). -/
def Obligations.DeframingIgnoresChunking : Prop :=
  ∀ (rawMax : Nat) (d : Deframer) (a b : List Byte), 0x1A#8 ∉ a → 0x1A#8 ∉ b →
    Deframer.chunk rawMax d (a ++ b) =
      ((Deframer.chunk rawMax d a).1 ++ (Deframer.chunk rawMax (Deframer.chunk rawMax d a).2 b).1,
        (Deframer.chunk rawMax (Deframer.chunk rawMax d a).2 b).2)

/-- R141 (the spec's decision D58): a chunk with a CANCEL acts as the bytes after its last CANCEL arriving with no
partial frame carried. -/
def Obligations.ChunkIsCutAtLastCancel : Prop :=
  ∀ (s : State) (now : Time) (space : Space) (a b : List Byte), s.live → 0x1A#8 ∉ b →
    exec (.rxChunk now space (a ++ 0x1A#8 :: b)) s =
      exec (.rxChunk now space b) { s with partialBytes := [], partialOverflow := false }

/-! ### Buffers -/

/-- A buffer reads as what was last written to it, a write leaves every byte of every other buffer alone, and the
canonical form is kept (20_memory.md §1; the form is the model's, log entry 6; that it holds of a handle the caller
does not own and of more than `BUF_SIZE` bytes too is the model's choice, log entry 21). -/
def Obligations.BufferReadAfterWrite : Prop :=
  ∀ (m : Memory) (h : Nat) (bytes : List Byte), m.wf →
    (m.write h bytes).wf ∧ (m.write h bytes).read h = bytes ∧
    ∀ h', h' ≠ h → ∀ p, (m.write h bytes).readByte h' p = m.readByte h' p

/-! ### Whole-machine properties -/

/-- Every step keeps the invariant of reachable states (10_state.md R26, R27, R32, R35, R36 and the others that
Safety.lean collects), from every state that has it. -/
def Obligations.StepKeepsInvariant : Prop :=
  ∀ s t : State, s.Inv → step s = .next t → t.Inv

/-- The invariant holds at power-on, under every valid configuration and so at reset (70_reset_and_hazards.md,
10_state.md). -/
def Obligations.PowerOnMeetsInvariant : Prop :=
  (∀ cfg : Config, cfg.valid = true → (State.powerOn cfg).Inv) ∧ State.reset.Inv

/-- No precondition violation can happen where the invariant holds: every instruction completes, and so does every
step (60_exceptions.md §3). -/
def Obligations.NothingStopsUnderInvariant : Prop :=
  (∀ (s : State) (i : Instr), s.Inv → ∃ t, exec i s = .next t) ∧ (∀ s : State, s.Inv → ∃ t, step s = .next t)

/-- Every buffer handle has exactly one owner at power-on, and keeps exactly one through every step from any state
in which it has one (10_state.md R35; the `rxDataBuffer` slot is empty at every command boundary and has no field,
log entry 11); with it the pool sizes are conserved (42_buffers.md R167, the spec's own inference), and the
configuration never changes (70_reset_and_hazards.md R330, 10_state.md R38, the spec's decision D49). -/
def Obligations.StepKeepsBufferOwnership : Prop :=
  (∀ cfg : Config, (State.powerOn cfg).owned) ∧
  (∀ s t : State, s.owned → step s = .next t →
    t.owned ∧ t.txFreeList.length + t.txQueue.length + t.reTxQueue.length = t.cfg.txPoolSize ∧
      t.rxFreeList.length + t.rxQueue.length = t.cfg.rxPoolSize) ∧
  (∀ s t : State, step s = .next t → t.cfg = s.cfg)

/-- A command never emits more bytes than its budget (43_commands.md, Observation). -/
def Obligations.OutputStaysWithinSpace : Prop :=
  ∀ (s t : State) (i : Instr), exec i s = .next t → t.resp.out.length ≤ instrBudget i

/-- START, RESET_NCP and STOP clear the fatal latch (60_exceptions.md R308) and reset the session
(70_reset_and_hazards.md R331), START and RESET_NCP with a new RST to send; nothing else clears a set latch (R308)
or changes its status, code or info (R309, the spec's own inference), and no byte is emitted while it stays set
(R307, the spec's decision D42). -/
def Obligations.OnlyResetsClearFatalLatch : Prop :=
  (∀ (s : State) (i : Instr), s.owned → ((∃ now space, i = .start now space) ∨ i = .stop ∨ i = .resetNcp) →
    ∃ t, exec i s = .next t ∧ t.fatalStatus = .none ∧ t.fatalCode = .none ∧ t.fatalInfo = 0 ∧ t.connected = false ∧
      t.frmTx = 0 ∧ t.frmRx = 0 ∧ t.ackRx = 0 ∧ t.txQueue = [] ∧ t.reTxQueue = [] ∧ t.rxQueue = [] ∧
      (i ≠ .stop → t.active = true ∧ (t.rstPending = true ∨ t.txKind = .rst ∨ t.rstSent = true))) ∧
  (∀ (s t : State) (i : Instr), s.fatalStatus ≠ .none → exec i s = .next t →
    (∃ now space, i = .start now space) ∨ i = .stop ∨ i = .resetNcp ∨
      (t.fatalStatus = s.fatalStatus ∧ t.fatalCode = s.fatalCode ∧ t.fatalInfo = s.fatalInfo ∧ t.resp.out = []))

/-- A response holds exactly one FATAL event when its command enters the fatal latch, and none otherwise
(60_exceptions.md §3). -/
def Obligations.FatalEventExactlyOnEntry : Prop :=
  ∀ (s t : State) (i : Instr), exec i s = .next t →
    t.resp.events.countP Event.isFatal = if s.fatalStatus = .none ∧ t.fatalStatus ≠ .none then 1 else 0

/-- A session is entered only by a received RSTACK of version 2 with the software-reset reason, as a frame or as one
of the raw frames an RX_CHUNK delivers, on an active block without fatal error whose RST has gone out in full; it is
left only by START, STOP, RESET_NCP or a fatal entry (10_state.md §3 and §4, 46_receive.md §3 and §4,
60_exceptions.md R306). The RSTACK as an instruction is the model's form of log entry 4. -/
def Obligations.SessionsBeginAndEndByRule : Prop :=
  (∀ (s t : State) (i : Instr), s.connected = false → exec i s = .next t → t.connected = true →
    s.live ∧ s.rstSent = true ∧
      ((∃ now space chunk, i = .rxChunk now space chunk ∧
          ∃ raw ∈ (s.deframe chunk).1, decodeRaw s.cfg raw.1 raw.2 = .ok (.rstack 2#8 0x0B#8)) ∨
        i = .rstack 2#8 0x0B#8)) ∧
  (∀ (s t : State) (i : Instr), s.connected = true → exec i s = .next t → t.connected = false →
    (∃ now space, i = .start now space) ∨ i = .stop ∨ i = .resetNcp ∨
      (s.fatalStatus = .none ∧ t.fatalStatus ≠ .none))

/-- `ackTx` and `peerNotReady` are never observable: states that differ only there give outcomes that differ only
there, the responses included (10_state.md §10). -/
def Obligations.UnobservedRegistersNeverShow : Prop :=
  ∀ (s s' : State) (i : Instr), s.hideUnobserved = s'.hideUnobserved →
    agreeThrough State.hideUnobserved (exec i s) (exec i s')

/-- While a session lasts, `frmRx` advances by one for each payload announced by a FRAME event and moves by nothing
else (46_receive.md §5). -/
def Obligations.AcceptedFramesAdvanceFrmRx : Prop :=
  ∀ (s t : State) (i : Instr), s.connected = true → exec i s = .next t →
    (∀ now space, i ≠ .start now space) → i ≠ .stop → i ≠ .resetNcp →
    t.frmRx = s.frmRx + BitVec.ofNat 3 (t.resp.events.count .frame)

/-! ### Reset commands -/

/-- START, from any state whose buffers have their one owner: the column "arm" of the reset table, the start wait
set, and the first `space` bytes of CANCEL and RST emitted; `rstSent` once the RST is out in full. Everything not
named, the counters and the buffers' bytes among it, stays (43_commands.md (R171), 70_reset_and_hazards.md (R331),
44_send.md). -/
def Obligations.StartArmsAndSendsReset : Prop :=
  ∀ (s : State) (now : Time) (space : Space), s.owned →
    exec (.start now space) s = .next { s.resetColumn with
      active := true
      startPending := true
      startTime := now
      cancelPending := decide (space.toNat = 0)
      rstPending := decide (space.toNat < 2)
      rstSent := decide (5 ≤ space.toNat)
      txFrame := if 2 ≤ space.toNat then [0xC0#8, 0x38#8, 0xBC#8, 0x7E#8].drop (space.toNat - 1) else []
      txKind := if 2 ≤ space.toNat ∧ space.toNat < 5 then .rst else .none
      sendState := if 2 ≤ space.toNat ∧ space.toNat < 5 then .sendingShortFrame else .idle
      notReady := decide (s.cfg.rxPoolSize < 8)
      resp := { status := .pending, out := [0x1A#8, 0xC0#8, 0x38#8, 0xBC#8, 0x7E#8].take space.toNat, events := [],
                value := .empty } }

/-- STOP, from any state whose buffers have their one owner: the column "teardown", `startTime` cleared with the
start wait (log entry 19), the block inactive, a waiting START ended with its event, nothing emitted, the counters
kept; a second STOP changes nothing more and signals nothing (43_commands.md (R172), 70_reset_and_hazards.md
(R331)). -/
def Obligations.StopTearsDown : Prop :=
  ∀ s : State, s.owned →
    ∃ t, exec .stop s = .next t ∧
      t = { s.resetColumn with
        active := false
        startPending := false
        startTime := 0
        resp := { status := .success, out := [],
                  events := if s.startPending then [.startDone .hostFatalError] else [], value := .empty } } ∧
      exec .stop t = .next { t with resp := Response.bare .success }

/-- RESET_NCP, from any state whose buffers have their one owner: the column "arm", the start wait and its deadline
kept, nothing emitted. The RST it arms leaves on the next tick: on a disconnected block with an RST pending, START
waiting or not, a TICK with no timer due emits the first `space` bytes of the pending CANCEL and the RST, clears
each flag as it is served, and sets `rstSent` with the RST's last byte (43_commands.md (R173),
70_reset_and_hazards.md (R331, R333, R340), 44_send.md (R202 to R204, R209)). -/
def Obligations.ResetNcpArmsAndEmitsNothing : Prop :=
  (∀ s : State, s.owned →
    exec .resetNcp s = .next { s.resetColumn with
      active := true
      cancelPending := true
      rstPending := true
      notReady := decide (s.cfg.rxPoolSize < 8)
      resp := Response.bare .success }) ∧
  (∀ (s : State) (now : Time) (space : Space) (k : Nat),
    s.live → s.connected = false → s.noTimerDue now → s.txFrame = [] → s.rstPending = true →
    k = (if s.cancelPending then 1 else 0) →
    exec (.tick now space) s = .next { s with
      cancelPending := s.cancelPending && decide (space.toNat = 0)
      rstPending := decide (space.toNat ≤ k)
      rstSent := s.rstSent || decide (k + 4 ≤ space.toNat)
      txFrame := if space.toNat ≤ k then [] else [0xC0#8, 0x38#8, 0xBC#8, 0x7E#8].drop (space.toNat - k)
      txKind := if space.toNat ≤ k then s.txKind else if space.toNat < k + 4 then .rst else .none
      sendState :=
        if space.toNat ≤ k then s.sendState else if space.toNat < k + 4 then .sendingShortFrame else .idle
      resp := { status := .success, events := [], value := .empty,
                out := ((if s.cancelPending then [0x1A#8] else []) ++ [0xC0#8, 0x38#8, 0xBC#8, 0x7E#8]).take space.toNat } })

/-! ### SEND -/

/-- The rejections of SEND in their order; a rejected SEND changes nothing and emits nothing (43_commands.md
(R174)). -/
def Obligations.SendRejectionsChangeNothing : Prop :=
  ∀ (s : State) (now : Time) (space : Space) (p : List Byte) (st : Status),
    ((s.fatalStatus = .hostFatalError ∧ st = .hostFatalError) ∨
     (s.fatalStatus = .ncpFatalError ∧ st = .ncpFatalError) ∨
     (s.fatalStatus = .none ∧ p.length < s.cfg.minDataLen ∧ st = .dataFrameTooShort) ∨
     (s.fatalStatus = .none ∧ s.cfg.minDataLen ≤ p.length ∧ s.cfg.maxDataLen < p.length ∧ st = .dataFrameTooLong) ∨
     (s.fatalStatus = .none ∧ s.cfg.minDataLen ≤ p.length ∧ p.length ≤ s.cfg.maxDataLen ∧ s.connected = false ∧
       st = .notConnected) ∨
     (s.fatalStatus = .none ∧ s.cfg.minDataLen ≤ p.length ∧ p.length ≤ s.cfg.maxDataLen ∧ s.connected = true ∧
       s.txFreeList = [] ∧ st = .noTxSpace)) →
    exec (.send now space p) s = .next { s with resp := Response.bare st }

/-- An accepted SEND: the payload is randomized into the buffer at the front of the free-list, the handle goes to
the back of `txQueue`, and the rest is a TICK with the status SUCCESS, whatever the tick does. Where no timer is
due: a frame in progress or an empty budget leaves the payload queued; a closed window with nothing else to send
leaves it queued and emits nothing; on an open window with nothing else to send the buffer goes on to `reTxQueue`,
`frmTx` advances, the ACK timer runs, and the first `space` bytes of the DATA frame go out, the rest staying in
`txFrame`; a TICK on an open window does that with the oldest queued payload (43_commands.md (R174), 44_send.md
(R200, R207), 45_timers.md (R235), 70_reset_and_hazards.md (R341); in states no run reaches the handle may have
another owner, log entry 21). -/
def Obligations.SendTransmitsFreshData : Prop :=
  (∀ (s q : State) (now : Time) (space : Space) (p : List Byte) (h : Nat) (fl : List Nat),
    s.cfg.valid = true → s.live → s.connected = true →
    s.cfg.minDataLen ≤ p.length → p.length ≤ s.cfg.maxDataLen → s.txFreeList = h :: fl →
    q = { s with
      txFreeList := fl
      txBuffers := s.txBuffers.write h (randomize p)
      txQueue := s.txQueue ++ [h] } →
    (∀ t, exec (.tick now space) q = .next t →
      exec (.send now space p) s = .next { t with resp := { t.resp with status := .success } }) ∧
    (s.noTimerDue now → space.toNat = 0 ∨ space.toNat < s.txFrame.length →
      exec (.send now space p) s = .next { q with
        txFrame := s.txFrame.drop space.toNat
        ackTimer := s.levelled now
        resp := { status := .success, out := s.txFrame.take space.toNat, events := [], value := .empty } }) ∧
    (s.noTimerDue now → s.txFrame = [] → s.cancelPending = false → s.rstPending = false → s.ackPending = false →
      s.nakPending = false → s.retransmit = false → s.cfg.txK ≤ dist8 s.ackRx s.frmTx →
      exec (.send now space p) s = .next { q with ackTimer := s.levelled now, resp := Response.bare .success }) ∧
    (s.noTimerDue now → s.txFrame = [] → s.cancelPending = false → s.rstPending = false → s.ackPending = false →
      s.nakPending = false → s.retransmit = false → dist8 s.ackRx s.frmTx < s.cfg.txK →
      s.txBuffers.wf → s.txQueue = [] → 0 < space.toNat →
      ∀ wire, wire = encodeFrame (dataControl s.frmTx false s.frmRx) (randomize p) →
      exec (.send now space p) s = .next { q with
        txQueue := []
        reTxQueue := s.reTxQueue ++ [h]
        frmTx := s.frmTx + 1
        ackTx := s.frmRx
        txFrame := wire.drop space.toNat
        txKind := if space.toNat < wire.length then .data else .none
        sendState := if space.toNat < wire.length then .sendingData else .idle
        ackTimer := if s.ackTimer.running then s.ackTimer else { running := true, start := now }
        resp := { status := .success, out := wire.take space.toNat, events := [], value := .empty } })) ∧
  (∀ (s : State) (now : Time) (space : Space) (k : Nat) (rest : List Nat) (wire : List Byte),
    s.cfg.valid = true → s.live → s.connected = true → s.noTimerDue now → s.txFrame = [] → s.cancelPending = false →
    s.rstPending = false → s.ackPending = false → s.nakPending = false → s.retransmit = false →
    dist8 s.ackRx s.frmTx < s.cfg.txK → s.txQueue = k :: rest →
    wire = encodeFrame (dataControl s.frmTx false s.frmRx) (s.txBuffers.read k) →
    0 < space.toNat → space.toNat ≤ wire.length →
    exec (.tick now space) s = .next { s with
      txQueue := rest
      reTxQueue := s.reTxQueue ++ [k]
      frmTx := s.frmTx + 1
      ackTx := s.frmRx
      txFrame := wire.drop space.toNat
      txKind := if space.toNat < wire.length then .data else .none
      sendState := if space.toNat < wire.length then .sendingData else .idle
      ackTimer := if s.ackTimer.running then s.ackTimer else { running := true, start := now }
      resp := { status := .success, out := wire.take space.toNat, events := [], value := .empty } })

/-! ### TICK -/

/-- RX_CHUNK, TICK and the six frames are turned away by an inactive block with NOT_CONNECTED and by a fatal one
with the latched status; nothing else changes, the deframer included (43_commands.md (R175, R176), 60_exceptions.md
(R307)). -/
def Obligations.InactiveOrFatalTurnsTrafficAway : Prop :=
  ∀ (s : State) (i : Instr) (st : Status),
    ((s.active = false ∧ st = .notConnected) ∨
     (s.active = true ∧ s.fatalStatus = .hostFatalError ∧ st = .hostFatalError) ∨
     (s.active = true ∧ s.fatalStatus = .ncpFatalError ∧ st = .ncpFatalError)) →
    ((∃ now space chunk, i = .rxChunk now space chunk) ∨ (∃ now space, i = .tick now space) ∨
     (∃ now f r a p, i = .data now f r a p) ∨ (∃ now p n a, i = .ack now p n a) ∨ (∃ now p n a, i = .nak now p n a) ∨
     i = .rst ∨ (∃ v r, i = .rstack v r) ∨ (∃ v e, i = .error v e)) →
    exec i s = .next { s with resp := Response.bare st }

/-- While a frame is in progress a tick emits its next `space` bytes and picks nothing; the frame completes with its
last byte, an RST setting `rstSent`. A budget that goes past the frame is spent as if the block, the frame
completed, were given a TICK with what is left. From any state of the invariant, whatever it has to send, a budget
splits: a TICK with `a + b` is a TICK with `a` and then a TICK with `b` at the same time, outputs and events
appended (44_send.md (R200, R201, R209)). -/
def Obligations.TickEmitsFrameInProgress : Prop :=
  (∀ (s : State) (now : Time) (space : Space),
    s.live → s.noTimerDue now → s.txFrame ≠ [] →
    (space.toNat ≤ s.txFrame.length →
      exec (.tick now space) s = .next { s with
        txFrame := s.txFrame.drop space.toNat
        txKind := if space.toNat < s.txFrame.length then s.txKind else .none
        sendState := if space.toNat < s.txFrame.length then s.sendState else .idle
        rstSent := s.rstSent || (decide (space.toNat = s.txFrame.length) && s.txKind == .rst)
        ackTimer := s.levelled now
        resp := { status := .success, out := s.txFrame.take space.toNat, events := [], value := .empty } }) ∧
    (∀ (left : Space) (t : State), space.toNat = s.txFrame.length + left.toNat →
      exec (.tick now left) { s with
        txFrame := []
        txKind := .none
        sendState := .idle
        rstSent := s.rstSent || s.txKind == .rst } = .next t →
      exec (.tick now space) s = .next { t with resp := { t.resp with out := s.txFrame ++ t.resp.out } })) ∧
  (∀ (s t u : State) (now : Time) (a b space : Space),
    s.Inv → space.toNat = a.toNat + b.toNat → exec (.tick now a) s = .next t → exec (.tick now b) t = .next u →
    exec (.tick now space) s = .next { u with
      resp := { u.resp with out := t.resp.out ++ u.resp.out, events := t.resp.events ++ u.resp.events } })

/-- A pending NAK or ACK on a connected block, or an ACK that the expired refresh timer asks for, is the next frame
picked: NAK before ACK, naming `frmRx`, with nFlag = `notReady` and pFlag 0; it answers both flags. A frame that
says not ready starts the refresh timer when it does not run, so an expired one is started anew; on a block that is
ready the expired timer just stops. Whatever else is in progress, the expiry asks for the ACK and stops the timer
before the tick goes on (44_send.md (R200, R205), 45_timers.md (R241 to R243), 47_flow_control.md (R293)). -/
def Obligations.TickSendsPendingNakOrAck : Prop :=
  (∀ (s : State) (now : Time) (space : Space) (due : Bool) (wire : List Byte),
    s.live → s.connected = true → (s.startPending = true → elapsed now s.startTime < 2500) →
    (s.ackTimer.running = true → elapsed now s.ackTimer.start < s.ackPeriod.toNat) →
    s.txFrame = [] → s.cancelPending = false → s.rstPending = false →
    due = (s.nrTimer.running && decide (s.cfg.nrRefresh ≤ elapsed now s.nrTimer.start)) →
    (s.nakPending = true ∨ s.ackPending = true ∨ due = true) →
    wire = encodeFrame (if s.nakPending then nakControl false s.notReady s.frmRx
      else ackControl false s.notReady s.frmRx) [] →
    0 < space.toNat → space.toNat ≤ wire.length →
    exec (.tick now space) s = .next { s with
      ackPending := false
      nakPending := false
      ackTx := s.frmRx
      txFrame := wire.drop space.toNat
      txKind := if space.toNat < wire.length then (if s.nakPending then .nak else .ack) else .none
      sendState := if space.toNat < wire.length then .sendingShortFrame else .idle
      nrTimer := if s.notReady && (!s.nrTimer.running || due) then { running := true, start := now }
        else { running := s.nrTimer.running && !due, start := s.nrTimer.start }
      ackTimer := s.levelled now
      resp := { status := .success, out := wire.take space.toNat, events := [], value := .empty } }) ∧
  (∀ (s : State) (now : Time) (space : Space),
    s.live → s.connected = true → (s.startPending = true → elapsed now s.startTime < 2500) →
    (s.ackTimer.running = true → elapsed now s.ackTimer.start < s.ackPeriod.toNat) →
    s.nrTimer.running = true → s.cfg.nrRefresh ≤ elapsed now s.nrTimer.start →
    exec (.tick now space) s = exec (.tick now space) { s with
      ackPending := true
      nrTimer := { running := false, start := s.nrTimer.start } })

/-- In retransmission mode with nothing more urgent a tick resends the outstanding frames before any fresh DATA: the
next frame it picks is the one numbered `frmReTx`, whatever waits in `txQueue`, unchanged but for rFlag and the
current ackNum; a budget of at most all of them emits the first `space` bytes of the frames from `frmReTx` to before
`frmTx`, in order, and touches neither `txQueue` nor `frmTx`; a budget of exactly all of them, or of more when no
fresh DATA waits, resends exactly these and ends the mode (44_send.md (R202, R206, R211), 45_timers.md (R237); in
states no run reaches the handle may have another owner, log entry 21). -/
def Obligations.TickResendsAllOutstanding : Prop :=
  (∀ (s : State) (now : Time) (space : Space) (k : Nat) (wire : List Byte),
    s.live → s.connected = true → s.noTimerDue now → s.txFrame = [] → s.cancelPending = false →
    s.rstPending = false → s.ackPending = false → s.nakPending = false → s.retransmit = true →
    s.reTxQueue[dist8 s.ackRx s.frmReTx]? = some k →
    wire = encodeFrame (dataControl s.frmReTx true s.frmRx) (s.txBuffers.read k) →
    0 < space.toNat → space.toNat ≤ wire.length →
    exec (.tick now space) s = .next { s with
      frmReTx := s.frmReTx + 1
      retransmit := decide (s.frmReTx + 1 ≠ s.frmTx)
      ackTx := s.frmRx
      txFrame := wire.drop space.toNat
      txKind := if space.toNat < wire.length then .redata else .none
      sendState := if space.toNat < wire.length then .resendingData else .idle
      ackTimer := s.levelled now
      resp := { status := .success, out := wire.take space.toNat, events := [], value := .empty } }) ∧
  (∀ (s : State) (now : Time) (space : Space) (wires : List Byte),
    s.Inv → s.live → s.connected = true → s.noTimerDue now → s.txFrame = [] → s.cancelPending = false →
    s.rstPending = false → s.ackPending = false → s.nakPending = false → s.retransmit = true →
    wires = reDataWires s.txBuffers.read s.frmRx s.frmReTx (s.reTxQueue.drop (dist8 s.ackRx s.frmReTx)) →
    (space.toNat ≤ wires.length →
      ∃ t, exec (.tick now space) s = .next t ∧ t.resp.out = wires.take space.toNat ∧ t.resp.status = .success ∧
        t.resp.events = [] ∧ t.txQueue = s.txQueue ∧ t.reTxQueue = s.reTxQueue ∧ t.frmTx = s.frmTx ∧
        t.txBuffers = s.txBuffers ∧ t.ackTimer = s.ackTimer) ∧
    (space.toNat = wires.length ∨ (s.txQueue = [] ∧ wires.length ≤ space.toNat) →
      exec (.tick now space) s = .next { s with
        frmReTx := s.frmTx
        retransmit := false
        ackTx := s.frmRx
        resp := { status := .success, out := wires, events := [], value := .empty } }))

/-- A tick on a block with nothing to send and no timer due changes nothing and emits nothing, whatever the budget;
with frames outstanding, or payloads waiting behind a closed window, it does the same but that the ACK timer runs
while frames are outstanding (44_send.md (R200, R207, R208), 45_timers.md (R235), 43_commands.md (R180)). -/
def Obligations.QuiescentTickChangesNothing : Prop :=
  (∀ (s : State) (now : Time) (space : Space),
    s.live → s.noTimerDue now → s.quiescent = true → s.retransmit = false →
    exec (.tick now space) s = .next { s with resp := Response.bare .success }) ∧
  (∀ (s : State) (now : Time) (space : Space),
    s.live → s.noTimerDue now → s.txFrame = [] → s.cancelPending = false → s.rstPending = false →
    s.ackPending = false → s.nakPending = false → s.retransmit = false →
    (s.txQueue = [] ∨ s.cfg.txK ≤ dist8 s.ackRx s.frmTx) →
    exec (.tick now space) s = .next { s with ackTimer := s.levelled now, resp := Response.bare .success })

/-- An expired ACK timer, with fewer than five timeouts before it: one timeout is counted, the period doubles under
its cap, retransmission starts from the oldest outstanding frame and the timer restarts; what the tick then does,
whatever its budget, is the TICK of the state so changed (a period of 0, which no run reaches, would expire again).
With no budget and no refresh due nothing more happens. Elapsed time is modulo 2^32 (00_scope.md (R14), 44_send.md
(R200), 45_timers.md (R233, R236, R237)). -/
def Obligations.AckTimeoutStartsRetransmission : Prop :=
  (∀ now t : Time, elapsed now t = (now.toNat + 2 ^ 32 - t.toNat) % 2 ^ 32) ∧
  (∀ (s t : State) (now : Time),
    s.live → s.connected = true → (s.startPending = true → elapsed now s.startTime < 2500) → s.ackTimer.running = true →
    s.ackPeriod.toNat ≤ elapsed now s.ackTimer.start → s.timeouts.toNat < 5 →
    t = { s with
      timeouts := s.timeouts + 1
      counters := { s.counters with ackTimeouts := s.counters.ackTimeouts + 1 }
      ackPeriod := BitVec.ofNat 12 (min (2 * s.ackPeriod.toNat) 2400)
      retransmit := true
      frmReTx := s.ackRx
      ackTimer := { running := true, start := now } } →
    (0 < s.ackPeriod.toNat → ∀ space : Space, exec (.tick now space) s = exec (.tick now space) t) ∧
    ((s.nrTimer.running = true → elapsed now s.nrTimer.start < s.cfg.nrRefresh) →
      exec (.tick now 0) s = .next { t with resp := Response.bare .success }))

/-- The sixth consecutive ACK timeout is fatal: HOST_FATAL_ERROR with ERR_TIMEOUTS, no byte emitted (45_timers.md
(R236), 60_exceptions.md). -/
def Obligations.SixthTimeoutLatchesFatal : Prop :=
  ∀ (s : State) (now : Time) (space : Space),
    s.live → s.connected = true → s.startPending = false → s.ackTimer.running = true →
    s.ackPeriod.toNat ≤ elapsed now s.ackTimer.start → s.timeouts.toNat = 5 →
    exec (.tick now space) s = .next { s.fatalColumn .hostFatalError .timeouts 0 with
      timeouts := 6
      counters := { s.counters with ackTimeouts := s.counters.ackTimeouts + 1 }
      ackPeriod := BitVec.ofNat 12 (min (2 * s.ackPeriod.toNat) 2400)
      resp := { status := .hostFatalError, out := [], events := [.fatal .hostFatalError .timeouts 0], value := .empty } }

/-- A START not answered within the start timeout is fatal at the next tick: HOST_FATAL_ERROR with ERR_RESET_FAIL,
then START_DONE(HOST_FATAL_ERROR), no byte emitted (45_timers.md (R240), 60_exceptions.md). -/
def Obligations.StartTimeoutLatchesFatal : Prop :=
  ∀ (s : State) (now : Time) (space : Space),
    s.live → s.startPending = true → 2500 ≤ elapsed now s.startTime →
    exec (.tick now space) s = .next { s.fatalColumn .hostFatalError .resetFail 0 with
      resp := { status := .hostFatalError, out := [],
                events := [.fatal .hostFatalError .resetFail 0, .startDone .hostFatalError], value := .empty } }

/-! ### RX_CHUNK -/

/-- A chunk with no FLAG and no CANCEL extends the carried partial frame, up to its capacity, bytes past it setting
the overflow bit; the rest is the TICK of that state, whatever the budget and the time. With no budget and no timer
due nothing more happens (41_deframer.md (R143, R145), 43_commands.md (R175)). -/
def Obligations.ChunkWithoutFlagIsCarried : Prop :=
  ∀ (s t : State) (now : Time) (chunk : List Byte),
    s.live → 0x7E#8 ∉ chunk → 0x1A#8 ∉ chunk → s.partialBytes.length ≤ 2 * s.cfg.maxFrameLen →
    t = { s with
      partialBytes := (s.partialBytes ++ chunk).take (2 * s.cfg.maxFrameLen)
      partialOverflow :=
        s.partialOverflow || decide (2 * s.cfg.maxFrameLen < s.partialBytes.length + chunk.length) } →
    (∀ space : Space, exec (.rxChunk now space chunk) s = exec (.tick now space) t) ∧
    (s.noTimerDue now →
      exec (.rxChunk now 0 chunk) s = .next { t with ackTimer := s.levelled now, resp := Response.bare .success })

/-- An RX_CHUNK is the raw frames its chunk delivers, handed to the receive machine in order up to the first that is
fatal, and then one TICK: same state, the events of all of them in order, the output and the status of the tick; the
frames after a fatal one are discarded. First for every chunk, rejected raw frames among those it delivers; then
what a chunk of raw frames each closed by a FLAG delivers; then for a chunk of well-formed frames, each as its
instruction (43_commands.md (R175), 41_deframer.md (R142 to R144), 46_receive.md (R250, R251, R253),
70_reset_and_hazards.md (R342)). A raw frame as a step of its own is the model's choice of log entry 4. -/
def Obligations.RxChunkIsFrameThenTick : Prop :=
  (∀ (s s₁ s₂ : State) (now : Time) (space : Space) (chunk : List Byte) (events : List Event),
    s.cfg.valid = true → s.live →
    stepRawFrames now (s.deframe chunk).1 (s.deframe chunk).2 = some (s₁, events) →
    exec (.tick now space) s₁ = .next s₂ →
    exec (.rxChunk now space chunk) s = .next { s₂ with resp := { s₂.resp with events := events ++ s₂.resp.events } }) ∧
  (∀ (s : State) (raws : List (List Byte)), (∀ raw ∈ raws, 0x7E#8 ∉ raw ∧ 0x1A#8 ∉ raw) →
    s.partialBytes = [] → s.partialOverflow = false →
    s.deframe (raws.flatMap (· ++ [0x7E#8])) =
      (raws.map fun raw => (raw.take (2 * s.cfg.maxFrameLen), decide (2 * s.cfg.maxFrameLen < raw.length)), s)) ∧
  (∀ (s s₁ s₂ : State) (now : Time) (space : Space) (fs : List Frame) (events : List Event),
    s.cfg.valid = true → (∀ f ∈ fs, (Instr.ofFrame now f).wellFormed s.cfg = true) → s.live →
    s.partialBytes = [] → s.partialOverflow = false →
    execFrames now fs s = some (s₁, events) → exec (.tick now space) s₁ = .next s₂ →
    exec (.rxChunk now space (fs.flatMap Frame.wire)) s =
      .next { s₂ with resp := { s₂.resp with events := events ++ s₂.resp.events } })

/-- The reset handshake's last step: the RSTACK chunk `1A C1 02 0B 0A 52 7E` on a block whose RST is out connects
it, ends a waiting START with SUCCESS even past its deadline, and the initial ACK goes out, ackNum 0 with nFlag =
`notReady`, as far as the budget reaches (46_receive.md (R268 to R270), 70_reset_and_hazards.md (R331, R333),
43_commands.md (R175)). -/
def Obligations.RstackChunkConnects : Prop :=
  ∀ (s : State) (now : Time) (space : Space) (wire : List Byte),
    5 ≤ s.cfg.maxFrameLen → s.live → s.connected = false → s.rstSent = true → s.txFrame = [] → s.nrTimer.running = false →
    wire = encodeFrame (ackControl false s.notReady 0) [] → 0 < space.toNat → space.toNat ≤ wire.length →
    exec (.rxChunk now space [0x1A, 0xC1, 0x02, 0x0B, 0x0A, 0x52, 0x7E]) s = .next { s.connectColumn with
      partialBytes := []
      partialOverflow := false
      ackPending := false
      txFrame := wire.drop space.toNat
      txKind := if space.toNat < wire.length then .ack else .none
      sendState := if space.toNat < wire.length then .sendingShortFrame else .idle
      nrTimer := if s.notReady then { running := true, start := now } else s.nrTimer
      resp := { status := .success, out := wire.take space.toNat,
                events := if s.startPending then [.startDone .success] else [], value := .empty } }

/-! ### RX_POP and the introspection commands -/

/-- RX_POP, in every state: with nothing received NO_RX_DATA and no change; else the oldest payload, its buffer
freed to the back of the free-list, and not-ready evaluated at the new free count (43_commands.md (R177),
42_buffers.md, 47_flow_control.md (R291, R292); in states no run reaches the handle may be outside the pool, log
entry 21). -/
def Obligations.RxPopDeliversOldest : Prop :=
  (∀ s : State, s.rxQueue = [] → exec .rxPop s = .next { s with resp := Response.bare .noRxData }) ∧
  (∀ (s : State) (h : Nat) (q : List Nat), s.rxQueue = h :: q → h ∉ s.rxFreeList → h ∉ q →
    exec .rxPop s = .next { s.flowColumn (s.rxFreeList.length + 1) with
      rxQueue := q
      rxFreeList := s.rxFreeList ++ [h]
      resp := { status := .success, out := [], events := [], value := .bytes (s.rxBuffers.read h) } })

/-- R178: IS_CONNECTED returns `connected` with SUCCESS in every state and writes no state. -/
def Obligations.IsConnectedReadsConnected : Prop :=
  ∀ s : State, exec .isConnected s =
    .next { s with resp := { status := .success, out := [], events := [], value := .bool s.connected } }

/-- IS_IDLE returns the quiescence predicate with SUCCESS in every state and writes no state (43_commands.md (R180,
decision D39)). -/
def Obligations.IsIdleReadsQuiescence : Prop :=
  ∀ s : State, ∃ b, exec .isIdle s =
    .next { s with resp := { status := .success, out := [], events := [], value := .bool b } } ∧
    (b = true ↔ s.sendState = .idle ∧ s.txFrame = [] ∧ s.txQueue = [] ∧ s.ackRx = s.frmTx ∧
      s.cancelPending = false ∧ s.rstPending = false ∧ s.ackPending = false ∧ s.nakPending = false)

/-- R181, R182 (the spec's decision D41): COUNTERS_READ returns the ten counters in index order and writes nothing;
COUNTERS_CLEAR sets each of them to 0 and writes nothing else; both return SUCCESS in every state. -/
def Obligations.CountersReadAndClear : Prop :=
  ∀ s : State,
    exec .countersRead s = .next { s with resp := { status := .success, out := [], events := [], value := .counters [
          s.counters.rxCrcErrors, s.counters.rxCommErrors, s.counters.rxTooShort, s.counters.rxTooLong,
          s.counters.rxBadFrame, s.counters.rxBadAckNum, s.counters.rxOutOfSequence, s.counters.rxDuplicates,
          s.counters.rxNoBuffer, s.counters.ackTimeouts] } } ∧
    exec .countersClear s = .next { s with
      counters :=
        { rxCrcErrors := 0, rxCommErrors := 0, rxTooShort := 0, rxTooLong := 0, rxBadFrame := 0, rxBadAckNum := 0,
          rxOutOfSequence := 0, rxDuplicates := 0, rxNoBuffer := 0, ackTimeouts := 0 }
      resp := { status := .success, out := [], events := [], value := .empty } }

/-! ### Received frames

The frame rows of the opcode table as instructions, each one frame handed to the receive machine as RX_CHUNK hands
it one, with its status and no tick after it: the model's choice of log entry 4. `RxChunkIsFrameThenTick` ties them to
RX_CHUNK. -/

/-- An ACK in range on a connected block records nFlag; one that acknowledges nothing new changes nothing else; one
that advances `ackRx` frees the acknowledged buffers oldest first, adapts the period while the timer runs, clears
the timeout count, keeps `frmReTx` in the window, and restarts or stops the timer. pFlag has no effect
(46_receive.md (R256 to R259), 45_timers.md (R232, R234)). -/
def Obligations.AckFrameAcknowledges : Prop :=
  ∀ (s : State) (now : Time) (p n : Bool) (a : Seq) (d : Nat),
    s.live → s.connected = true → d = dist8 s.ackRx a → d ≤ dist8 s.ackRx s.frmTx → d ≤ s.reTxQueue.length → s.txOwned →
    exec (.ack now p n a) s =
      if d = 0 then .next { s with peerNotReady := n, resp := Response.bare .success }
      else .next { s with
        peerNotReady := n
        ackPeriod := if s.ackTimer.running then
          BitVec.ofNat 12 (min (max ((7 * s.ackPeriod.toNat + elapsed now s.ackTimer.start) / 8) 400) 2400)
          else s.ackPeriod
        txFreeList := s.txFreeList ++ s.reTxQueue.take d
        reTxQueue := s.reTxQueue.drop d
        ackRx := a
        timeouts := 0
        frmReTx := if within a s.frmReTx s.frmTx then s.frmReTx else a
        retransmit := s.retransmit && (if within a s.frmReTx s.frmTx then s.frmReTx else a) != s.frmTx
        ackTimer := if a = s.frmTx then { running := false, start := s.ackTimer.start }
          else { running := true, start := now }
        resp := Response.bare .success }

/-- A NAK in range on a connected block does what the same ACK does and then, when no retransmission is in progress
and frames are outstanding, starts one from the oldest (46_receive.md (R264), 45_timers.md). -/
def Obligations.NakFrameRetransmits : Prop :=
  ∀ (s : State) (now : Time) (p n : Bool) (a : Seq),
    s.live → s.connected = true → within s.ackRx a s.frmTx = true → dist8 s.ackRx a ≤ s.reTxQueue.length → s.txOwned →
    ∃ s₁, exec (.ack now p n a) s = .next s₁ ∧
      exec (.nak now p n a) s = .next
        (if s₁.retransmit = false ∧ s₁.ackRx ≠ s₁.frmTx then { s₁ with retransmit := true, frmReTx := s₁.ackRx } else s₁)

/-- The ackNum of a DATA frame is used even when the frame is a duplicate or out of sequence: a DATA frame in range
on a connected block is the ACK with its ackNum, nFlag unchanged, and then the DATA frame acknowledging nothing new
(46_receive.md (R257, R260)). -/
def Obligations.DataFrameCarriesAck : Prop :=
  ∀ (s : State) (now : Time) (f : Seq) (r : Bool) (a : Seq) (p : List Byte),
    s.live → s.connected = true → within s.ackRx a s.frmTx = true → dist8 s.ackRx a ≤ s.reTxQueue.length → s.txOwned →
    s.cfg.minDataLen ≤ p.length → p.length ≤ s.cfg.maxDataLen →
    ∃ s₁ t, exec (.ack now false s.peerNotReady a) s = .next s₁ ∧ s₁.ackRx = a ∧
      exec (.data now f r a p) s = .next t ∧ exec (.data now f r a p) s₁ = .next t

/-- An in-sequence DATA frame that acknowledges nothing new, whatever its rFlag: with a free receive buffer it is
de-randomized into the buffer at the front of the free-list, queued, announced, `frmRx` advances, the reject
condition clears, an ACK is requested and not-ready is evaluated; with none it is counted and rejected and `frmRx`
stays (46_receive.md (R261, R262), 47_flow_control.md (R291), 40_codec.md; in states no run reaches the handle may
have another owner, log entry 21). -/
def Obligations.DataInSequenceIsAccepted : Prop :=
  (∀ (s : State) (now : Time) (r : Bool) (p : List Byte) (h : Nat) (fl : List Nat),
    s.live → s.connected = true → s.cfg.minDataLen ≤ p.length → p.length ≤ s.cfg.maxDataLen → s.rxFreeList = h :: fl →
    exec (.data now s.frmRx r s.ackRx p) s = .next { s.flowColumn fl.length with
      rxFreeList := fl
      rxBuffers := s.rxBuffers.write h (randomize p)
      rxQueue := s.rxQueue ++ [h]
      frmRx := s.frmRx + 1
      rejectCond := false
      ackPending := true
      resp := { status := .success, out := [], events := [.frame], value := .empty } }) ∧
  (∀ (s : State) (now : Time) (r : Bool) (p : List Byte),
    s.live → s.connected = true → s.cfg.minDataLen ≤ p.length → p.length ≤ s.cfg.maxDataLen → s.rxFreeList = [] →
    exec (.data now s.frmRx r s.ackRx p) s = .next { s with
      counters := { s.counters with rxNoBuffer := s.counters.rxNoBuffer + 1 }
      rejectCond := true
      nakPending := s.nakPending || !s.rejectCond
      resp := Response.bare .success })

/-- A DATA frame that is not in sequence and acknowledges nothing new: with rFlag it is a duplicate, counted and
answered by an ACK; without, it is out of sequence, counted and answered by a NAK only when the reject condition
does not stand yet. Its payload goes nowhere (46_receive.md (R255, R263)). -/
def Obligations.DataNotInSequence : Prop :=
  ∀ (s : State) (now : Time) (f : Seq) (p : List Byte),
    s.live → s.connected = true → s.cfg.minDataLen ≤ p.length → p.length ≤ s.cfg.maxDataLen → f ≠ s.frmRx →
    exec (.data now f true s.ackRx p) s = .next { s with
      counters := { s.counters with rxDuplicates := s.counters.rxDuplicates + 1 }
      ackPending := true
      resp := Response.bare .success } ∧
    exec (.data now f false s.ackRx p) s = .next { s with
      counters := { s.counters with
        rxOutOfSequence := if s.rejectCond then s.counters.rxOutOfSequence else s.counters.rxOutOfSequence + 1 }
      rejectCond := true
      nakPending := s.nakPending || !s.rejectCond
      resp := Response.bare .success }

/-- A frame whose ackNum is out of range, its distance from `ackRx` modulo 8 above that of `frmTx`, on a connected
block is counted and dropped: its nFlag is not recorded and its payload not delivered, even in sequence; a DATA
frame is also rejected (00_scope.md (R13), 46_receive.md (R255, R256)). -/
def Obligations.BadAckNumIsCounted : Prop :=
  (∀ a b : Seq, dist8 a b = (b.toNat + 8 - a.toNat) % 8) ∧
  (∀ lo x hi : Seq, within lo x hi = true ↔ dist8 lo x ≤ dist8 lo hi) ∧
  (∀ (s : State) (now : Time) (f : Seq) (r n b : Bool) (a : Seq) (p : List Byte),
    s.live → s.connected = true → dist8 s.ackRx s.frmTx < dist8 s.ackRx a →
    s.cfg.minDataLen ≤ p.length → p.length ≤ s.cfg.maxDataLen →
    exec (.ack now b n a) s = .next { s with
      counters := { s.counters with rxBadAckNum := s.counters.rxBadAckNum + 1 }, resp := Response.bare .success } ∧
    exec (.nak now b n a) s = .next { s with
      counters := { s.counters with rxBadAckNum := s.counters.rxBadAckNum + 1 }, resp := Response.bare .success } ∧
    exec (.data now f r a p) s = .next { s with
      counters := { s.counters with rxBadAckNum := s.counters.rxBadAckNum + 1 }
      rejectCond := true
      nakPending := s.nakPending || !s.rejectCond
      resp := Response.bare .success })

/-- R265, R271 (the spec's decisions D30, D31): an RST is ignored, connected or not; while not connected DATA, ACK
and NAK frames are ignored too, and the reject path does nothing. -/
def Obligations.FramesIgnored : Prop :=
  (∀ s : State, s.live → exec .rst s = .next { s with resp := Response.bare .success }) ∧
  (∀ (s : State) (now : Time) (f : Seq) (r n b : Bool) (a : Seq) (p : List Byte),
    s.live → s.connected = false → s.cfg.minDataLen ≤ p.length → p.length ≤ s.cfg.maxDataLen →
    exec (.data now f r a p) s = .next { s with resp := Response.bare .success } ∧
    exec (.ack now b n a) s = .next { s with resp := Response.bare .success } ∧
    exec (.nak now b n a) s = .next { s with resp := Response.bare .success }) ∧
  (∀ (s : State) (frame : List Byte), s.connected = false → s.rejIfData frame = s)

/-- An RSTACK is fatal while connected, whatever its version; before connection a version other than 2 is fatal,
version 2 with the software-reset reason connects once the RST is out in full, and any other is ignored
(46_receive.md (R266, R268 to R270), 70_reset_and_hazards.md (R331)). -/
def Obligations.RstackByConnectionAndVersion : Prop :=
  ∀ (s : State) (v r : Byte), s.live →
    exec (.rstack v r) s = .next
      (if s.connected then
        { s.fatalColumn .ncpFatalError .ncpReset r with
          resp := { status := .ncpFatalError, out := [],
                    events := s.fatalEvents .ncpFatalError .ncpReset r, value := .empty } }
      else if v ≠ 2#8 then
        { s.fatalColumn .hostFatalError .version 0 with
          resp := { status := .hostFatalError, out := [],
                    events := s.fatalEvents .hostFatalError .version 0, value := .empty } }
      else if r = 0x0B#8 ∧ s.rstSent = true then
        { s.connectColumn with
          resp := { status := .success, out := [],
                    events := if s.startPending then [.startDone .success] else [], value := .empty } }
      else { s with resp := Response.bare .success })

/-- An ERROR frame is fatal, connected or not: NCP_FATAL_ERROR with ERR_NCP_ERROR and the error code as info
(46_receive.md (R267), 60_exceptions.md (R306)). -/
def Obligations.ErrorFrameLatchesFatal : Prop :=
  ∀ (s : State) (v e : Byte), s.live →
    exec (.error v e) s = .next { s.fatalColumn .ncpFatalError .ncpError e with
      resp := { status := .ncpFatalError, out := [],
                events := s.fatalEvents .ncpFatalError .ncpError e, value := .empty } }

/-- Which raw frames are rejected, as what, and with what effect. The decoder: a CANCEL aborts; else the first that
holds of XON or XOFF under hardware flow control, SUBSTITUTE, too long (overflowed, or more than `MAX_FRAME_LEN`
decoded bytes), no decoded byte, fewer than 3, a bad CRC; else OK, and then a control byte and length that are no
legal frame are rejected too. A rejected frame is counted in its own counter; when connected and its first decoded
byte is a DATA control byte it is rejected, which asks for a NAK only while the reject condition does not stand; a
CANCELLED or EMPTY one has no effect, and an XON/XOFF error is fatal (40_codec.md (R124 to R132), 30_encoding.md
(R80, R85, R91), 46_receive.md (R251, R253 to R255)). The raw frame as a step of its own is the model's choice of
log entry 4; `RxChunkIsFrameThenTick` ties it to RX_CHUNK. -/
def Obligations.RejectedRawFrames : Prop :=
  (∀ (cfg : Config) (raw : List Byte) (ovf : Bool),
    (0x1A#8 ∈ raw → decodeFrame cfg raw ovf = .cancelled) ∧
    (0x1A#8 ∉ raw → ∀ kept, kept = (unstuffed false raw).take cfg.maxFrameLen →
      decodeFrame cfg raw ovf =
        if cfg.hwFlowControl = true ∧ (0x11#8 ∈ raw ∨ 0x13#8 ∈ raw) then .xonXoffError kept
        else if 0x18#8 ∈ raw then .commError kept
        else if ovf = true ∨ cfg.maxFrameLen < (unstuffed false raw).length then .tooLong kept
        else if kept.length = 0 then .empty
        else if kept.length < 3 then .tooShort kept
        else if crcOk kept = false then .badCrc kept
        else .ok (kept.headD 0) ((kept.drop 1).take (kept.length - 3)))) ∧
  (∀ (cfg : Config) (raw : List Byte) (ovf : Bool),
    match decodeFrame cfg raw ovf with
    | .ok c d =>
      (legalFrame cfg c d.length → ∃ f, decodeRaw cfg raw ovf = .ok f ∧ f.control = c ∧ f.dataBytes = d) ∧
      (¬ legalFrame cfg c d.length → decodeRaw cfg raw ovf = .error (.illegal c d))
    | .badCrc f => decodeRaw cfg raw ovf = .error (.badCrc f)
    | .tooShort f => decodeRaw cfg raw ovf = .error (.tooShort f)
    | .tooLong f => decodeRaw cfg raw ovf = .error (.tooLong f)
    | .commError f => decodeRaw cfg raw ovf = .error (.commError f)
    | .cancelled => decodeRaw cfg raw ovf = .error .cancelled
    | .empty => decodeRaw cfg raw ovf = .error .empty
    | .xonXoffError _ => decodeRaw cfg raw ovf = .error .xonXoff) ∧
  (∀ (s : State) (raw : List Byte) (ovf : Bool) (now : Time) (rest : List Input) (r : FrameReject),
    s.cfg.valid = true → s.live → s.input = .rawFrame raw ovf now :: rest →
    decode s.cfg (.rawFrame raw ovf now) = .error (.frame r) →
    let rejected (c : Counters) (frame : List Byte) : State := { s with
      input := rest
      counters := c
      rejectCond := s.rejectCond || (s.connected && looksLikeData frame)
      nakPending := s.nakPending || (s.connected && looksLikeData frame && !s.rejectCond)
      resp := Response.bare .success }
    step s = .next (match r with
      | .badCrc f => rejected { s.counters with rxCrcErrors := s.counters.rxCrcErrors + 1 } f
      | .commError f => rejected { s.counters with rxCommErrors := s.counters.rxCommErrors + 1 } f
      | .tooShort f => rejected { s.counters with rxTooShort := s.counters.rxTooShort + 1 } f
      | .tooLong f => rejected { s.counters with rxTooLong := s.counters.rxTooLong + 1 } f
      | .illegal c d => rejected { s.counters with rxBadFrame := s.counters.rxBadFrame + 1 } (c :: d)
      | .cancelled => { s with input := rest, resp := Response.bare .success }
      | .empty => { s with input := rest, resp := Response.bare .success }
      | .xonXoff => { s.fatalColumn .hostFatalError .xonXoff 0 with
          input := rest
          resp := { status := .hostFatalError, out := [],
                    events := s.fatalEvents .hostFatalError .xonXoff 0, value := .empty } }))
end

