-- ==== Sys2Proof/Laws/Ops.lean ====
section
/-!
SUPPORT. One lemma for each shared operation of Machine/Ops.lean and Machine/Flags.lean: everything it does, as one
record update of the state it starts from (or, for an operation with a precondition, what holds when it answers
and when it answers).
-/

namespace Sys2Proof.Machine

variable (s : State)

/-! ### Outcomes -/

@[simp] theorem outcome_ok (t : State) : Result.outcome (.ok t) = .next t := rfl

@[simp] theorem outcome_error (f : Fault) : Result.outcome (.error f) = .fault f := rfl

theorem outcome_next_iff (r : Result) (t : State) : r.outcome = .next t ↔ r = .ok t := by
  cases r <;> simp [Result.outcome]

/-! ### Flags -/

/-- `reject()` asks for a NAK only when the reject condition does not stand (R255). -/
theorem reject_eq : s.reject = { s with rejectCond := true, nakPending := s.nakPending || !s.rejectCond } := by
  obtain ⟨⟩ := s
  simp only [State.reject]
  split <;> simp_all

theorem msb_looksLikeData (c : Byte) : (!c.getLsbD 7) = decide (c.toNat < 0x80) := by
  revert c; decide

/-- `rejIfData(F)` (R254). -/
theorem rejIfData_eq (f : List Byte) : s.rejIfData f = { s with
    rejectCond := s.rejectCond || (s.connected && looksLikeData f)
    nakPending := s.nakPending || (s.connected && looksLikeData f && !s.rejectCond) } := by
  cases f with
  | nil => simp [State.rejIfData, looksLikeData]
  | cons c f =>
    obtain ⟨⟩ := s
    simp only [State.rejIfData, looksLikeData, msb_looksLikeData, reject_eq]
    split <;> simp_all

/-- `nrEval()` at the current free count (R291, R292). -/
theorem nrEval_eq : s.nrEval = s.flowColumn s.rxFreeList.length := by
  have hv : s.notReadyNext = notReadyAt s.rxFreeList.length s.notReady := rfl
  simp only [State.nrEval, hv, State.flowColumn, State.readyAgain, State.nrTimerStop]
  generalize notReadyAt s.rxFreeList.length s.notReady = v
  obtain ⟨⟩ := s
  dsimp only
  split
  · split <;> simp_all
  · simp_all

/-! ### The fatal latch -/

/-- The end of a waiting START (R306, R270, R172). -/
theorem endStart_eq (st : Status) : s.endStart st = { s with
    startPending := false
    resp := { s.resp with events := s.resp.events ++ if s.startPending then [.startDone st] else [] } } := by
  obtain ⟨⟩ := s
  simp only [State.endStart, State.signal]
  split <;> simp_all

/-- Fatal entry on a clear latch (R306). -/
theorem raiseFatal_clear (status : FatalStatus) (code : FatalCode) (info : Byte) (h : s.fatalStatus = .none) :
    s.raiseFatal status code info = { s.fatalColumn status code info with
      resp := { s.resp with events := s.resp.events ++ s.fatalEvents status.toStatus code info } } := by
  simp only [State.raiseFatal, h, if_true, endStart_eq, State.fatalColumn, State.fatalEvents, State.ackTimerStop,
    State.nrTimerStop, State.signal]
  cases s.startPending <;> simp

/-- A set latch is not entered again (R309). -/
theorem raiseFatal_latched (status : FatalStatus) (code : FatalCode) (info : Byte) (h : s.fatalStatus ≠ .none) :
    s.raiseFatal status code info = s := by
  simp [State.raiseFatal, h]

/-- `connect()` (R270). -/
theorem connect_eq : s.connect = { s.connectColumn with
    resp := { s.resp with events := s.resp.events ++ if s.startPending then [.startDone .success] else [] } } := by
  simp only [State.connect, endStart_eq, State.connectColumn, State.ackTimerStop]

/-! ### Buffers -/

/-- `free(h)` of a transmit handle answers exactly when the handle has no owner (R153, R154). -/
theorem txFree_ok_iff (h : Nat) (t : State) : s.txFree h = .ok t ↔
    h ∉ s.txFreeList ∧ h ∉ s.txQueue ∧ h ∉ s.reTxQueue ∧ t = { s with txFreeList := s.txFreeList ++ [h] } := by
  unfold State.txFree
  split
  · simp; tauto
  · rename_i hn; simp only [not_or] at hn; simp [hn, eq_comm]

/-- `free(h)` of a receive handle (R153, R154). -/
theorem rxFree_ok_iff (h : Nat) (t : State) : s.rxFree h = .ok t ↔
    h ∉ s.rxFreeList ∧ h ∉ s.rxQueue ∧ t = { s with rxFreeList := s.rxFreeList ++ [h] } := by
  unfold State.rxFree
  split
  · simp; tauto
  · rename_i hn; simp only [not_or] at hn; simp [hn, eq_comm]

/-- What `n` times `free(pop_front(reTxQueue))` leaves when it answers (R164, R257). -/
theorem freeReTx_ok {n : Nat} {s t : State} (h : s.freeReTx n = .ok t) : n ≤ s.reTxQueue.length ∧
    t = { s with txFreeList := s.txFreeList ++ s.reTxQueue.take n, reTxQueue := s.reTxQueue.drop n } := by
  induction n generalizing s with
  | zero => simp only [State.freeReTx, Except.ok.injEq] at h; simp [← h]
  | succ n ih =>
    simp only [State.freeReTx] at h
    split at h
    · cases h
    · rename_i x q hq
      split at h
      · rename_i s' hs'
        obtain ⟨-, -, -, rfl⟩ := (txFree_ok_iff _ _ _).1 hs'
        obtain ⟨h₁, rfl⟩ := ih h
        simp at h₁
        simp [hq, h₁]
      · cases h

/-- What `n` times `free(pop_front(txQueue))` leaves when it answers (R164). -/
theorem freeTx_ok {n : Nat} {s t : State} (h : s.freeTx n = .ok t) : n ≤ s.txQueue.length ∧
    t = { s with txFreeList := s.txFreeList ++ s.txQueue.take n, txQueue := s.txQueue.drop n } := by
  induction n generalizing s with
  | zero => simp only [State.freeTx, Except.ok.injEq] at h; simp [← h]
  | succ n ih =>
    simp only [State.freeTx] at h
    split at h
    · cases h
    · rename_i x q hq
      split at h
      · rename_i s' hs'
        obtain ⟨-, -, -, rfl⟩ := (txFree_ok_iff _ _ _).1 hs'
        obtain ⟨h₁, rfl⟩ := ih h
        simp at h₁
        simp [hq, h₁]
      · cases h

/-- What `n` times `free(pop_front(rxQueue))` leaves when it answers (R164). -/
theorem freeRx_ok {n : Nat} {s t : State} (h : s.freeRx n = .ok t) : n ≤ s.rxQueue.length ∧
    t = { s with rxFreeList := s.rxFreeList ++ s.rxQueue.take n, rxQueue := s.rxQueue.drop n } := by
  induction n generalizing s with
  | zero => simp only [State.freeRx, Except.ok.injEq] at h; simp [← h]
  | succ n ih =>
    simp only [State.freeRx] at h
    split at h
    · cases h
    · rename_i x q hq
      split at h
      · rename_i s' hs'
        obtain ⟨-, -, rfl⟩ := (rxFree_ok_iff _ _ _).1 hs'
        obtain ⟨h₁, rfl⟩ := ih h
        simp at h₁
        simp [hq, h₁]
      · cases h

/-- Freeing from `reTxQueue` answers when no handle has two owners and the queue is long enough. -/
theorem freeReTx_eq {n : Nat} {s : State} (hd : (s.txFreeList ++ s.txQueue ++ s.reTxQueue).Nodup)
    (hn : n ≤ s.reTxQueue.length) : s.freeReTx n =
      .ok { s with txFreeList := s.txFreeList ++ s.reTxQueue.take n, reTxQueue := s.reTxQueue.drop n } := by
  have key : ∃ t, s.freeReTx n = .ok t := by
    induction n generalizing s with
    | zero => exact ⟨s, rfl⟩
    | succ n ih =>
      obtain ⟨x, q, hq⟩ : ∃ x q, s.reTxQueue = x :: q := by
        cases h : s.reTxQueue with
        | nil => simp [h] at hn
        | cons x q => exact ⟨x, q, rfl⟩
      have hf : ({ s with reTxQueue := q } : State).txFree x =
          .ok { s with reTxQueue := q, txFreeList := s.txFreeList ++ [x] } := by
        rw [txFree_ok_iff]
        rw [hq] at hd
        simp only [List.nodup_append, List.nodup_cons, List.mem_append, List.mem_cons] at hd
        refine ⟨?_, ?_, ?_, rfl⟩
        · intro h; exact hd.2.2 x (.inl h) x (.inl rfl) rfl
        · intro h; exact hd.2.2 x (.inr h) x (.inl rfl) rfl
        · exact hd.2.1.1
      simp only [State.freeReTx, hq, hf]
      refine ih ?_ (by simp [hq] at hn; exact hn)
      rw [hq] at hd
      refine (List.Perm.nodup_iff ?_).1 hd
      simp only [List.append_assoc, List.singleton_append]
      refine (List.Perm.append_left _ ?_)
      exact (List.perm_middle).trans (List.Perm.refl _)
  obtain ⟨t, ht⟩ := key
  rw [ht, (freeReTx_ok ht).2]

/-- Freeing from `txQueue` answers when no handle has two owners and the queue is long enough. -/
theorem freeTx_eq {n : Nat} {s : State} (hd : (s.txFreeList ++ s.txQueue ++ s.reTxQueue).Nodup)
    (hn : n ≤ s.txQueue.length) : s.freeTx n =
      .ok { s with txFreeList := s.txFreeList ++ s.txQueue.take n, txQueue := s.txQueue.drop n } := by
  have key : ∃ t, s.freeTx n = .ok t := by
    induction n generalizing s with
    | zero => exact ⟨s, rfl⟩
    | succ n ih =>
      obtain ⟨x, q, hq⟩ : ∃ x q, s.txQueue = x :: q := by
        cases h : s.txQueue with
        | nil => simp [h] at hn
        | cons x q => exact ⟨x, q, rfl⟩
      have hf : ({ s with txQueue := q } : State).txFree x =
          .ok { s with txQueue := q, txFreeList := s.txFreeList ++ [x] } := by
        rw [txFree_ok_iff]
        rw [hq] at hd
        simp only [List.nodup_append, List.nodup_cons, List.mem_append, List.mem_cons] at hd
        refine ⟨?_, ?_, ?_, rfl⟩
        · intro h; exact hd.1.2.2 x h x (.inl rfl) rfl
        · exact hd.1.2.1.1
        · intro h; exact hd.2.2 x (.inr (.inl rfl)) x h rfl
      simp only [State.freeTx, hq, hf]
      refine ih ?_ (by simp [hq] at hn; exact hn)
      rw [hq] at hd
      simpa using hd
  obtain ⟨t, ht⟩ := key
  rw [ht, (freeTx_ok ht).2]

/-- Freeing from `rxQueue` answers when no handle has two owners and the queue is long enough. -/
theorem freeRx_eq {n : Nat} {s : State} (hd : (s.rxFreeList ++ s.rxQueue).Nodup) (hn : n ≤ s.rxQueue.length) :
    s.freeRx n = .ok { s with rxFreeList := s.rxFreeList ++ s.rxQueue.take n, rxQueue := s.rxQueue.drop n } := by
  have key : ∃ t, s.freeRx n = .ok t := by
    induction n generalizing s with
    | zero => exact ⟨s, rfl⟩
    | succ n ih =>
      obtain ⟨x, q, hq⟩ : ∃ x q, s.rxQueue = x :: q := by
        cases h : s.rxQueue with
        | nil => simp [h] at hn
        | cons x q => exact ⟨x, q, rfl⟩
      have hf : ({ s with rxQueue := q } : State).rxFree x =
          .ok { s with rxQueue := q, rxFreeList := s.rxFreeList ++ [x] } := by
        rw [rxFree_ok_iff]
        rw [hq] at hd
        simp only [List.nodup_append, List.nodup_cons, List.mem_cons] at hd
        refine ⟨?_, hd.2.1.1, rfl⟩
        intro h; exact hd.2.2 x h x (.inl rfl) rfl
      simp only [State.freeRx, hq, hf]
      refine ih ?_ (by simp [hq] at hn; exact hn)
      rw [hq] at hd
      simpa using hd
  obtain ⟨t, ht⟩ := key
  rw [ht, (freeRx_ok ht).2]

/-- What `drainQueues()` leaves when it answers (R164). -/
theorem drainQueues_ok {s t : State} (h : s.drainQueues = .ok t) : t = { s with
    txFreeList := s.txFreeList ++ s.reTxQueue ++ s.txQueue
    rxFreeList := s.rxFreeList ++ s.rxQueue
    txQueue := []
    reTxQueue := []
    rxQueue := [] } := by
  unfold State.drainQueues at h
  split at h
  · cases h
  · rename_i s₁ h₁
    obtain ⟨-, rfl⟩ := freeReTx_ok h₁
    dsimp only at h
    split at h
    · cases h
    · rename_i s₂ h₂
      obtain ⟨-, rfl⟩ := freeTx_ok h₂
      obtain ⟨-, rfl⟩ := freeRx_ok h
      simp

/-- `drainQueues()` answers when every handle has its one owner. -/
theorem drainQueues_eq (hs : s.owned) : s.drainQueues = .ok { s with
    txFreeList := s.txFreeList ++ s.reTxQueue ++ s.txQueue
    rxFreeList := s.rxFreeList ++ s.rxQueue
    txQueue := []
    reTxQueue := []
    rxQueue := [] } := by
  obtain ⟨ht, hr⟩ := hs
  have hnt : (s.txFreeList ++ s.txQueue ++ s.reTxQueue).Nodup := ht.nodup_iff.2 List.nodup_range
  have hnr : (s.rxFreeList ++ s.rxQueue).Nodup := hr.nodup_iff.2 List.nodup_range
  have hnt' : (s.txFreeList ++ s.reTxQueue ++ s.txQueue ++ []).Nodup := by
    refine (List.Perm.nodup_iff ?_).1 hnt
    simp only [List.append_assoc, List.append_nil]
    exact List.Perm.append_left _ List.perm_append_comm
  unfold State.drainQueues
  rw [freeReTx_eq hnt le_rfl]
  dsimp only
  rw [freeTx_eq (by simpa using hnt') (by simp)]
  dsimp only
  rw [freeRx_eq (by simpa using hnr) (by simp)]
  simp

/-! ### The resets -/

/-- `teardown()` answers with the column "teardown" of R331 when every handle has its one owner. -/
theorem teardown_eq (hs : s.owned) : s.teardown = .ok { s.resetColumn with startTime := 0 } := by
  simp only [State.teardown, drainQueues_eq s hs, State.sessionReset, State.ackTimerStop, State.nrTimerStop,
    State.resetColumn, ackTimeInit]

/-- What `teardown()` leaves when it answers. -/
theorem teardown_ok {s t : State} (h : s.teardown = .ok t) : t = { s.resetColumn with startTime := 0 } := by
  unfold State.teardown at h
  split at h
  · cases h
  · rename_i s₁ h₁
    rw [drainQueues_ok h₁] at h
    simp only [Except.ok.injEq] at h
    rw [← h]
    rfl

/-- What `arm()` leaves when it answers: the column "arm" of R331, not-ready evaluated at the whole receive pool. -/
theorem arm_ok {s t : State} (h : s.arm = .ok t) : t = { s.resetColumn with
    active := true
    cancelPending := true
    rstPending := true
    notReady := decide (s.rxFreeList.length + s.rxQueue.length < 8) } := by
  unfold State.arm at h
  split at h
  · cases h
  · rename_i s₁ h₁
    rw [drainQueues_ok h₁] at h
    simp only [Except.ok.injEq] at h
    rw [← h, nrEval_eq]
    have key : notReadyAt (s.rxFreeList.length + s.rxQueue.length) false =
        decide (s.rxFreeList.length + s.rxQueue.length < 8) := by
      simp only [notReadyAt]; split <;> simp_all
    simp [State.flowColumn, State.sessionReset, State.ackTimerStop, State.nrTimerStop, State.resetColumn, ackTimeInit,
      key]

/-- `arm()` answers when every handle has its one owner. -/
theorem arm_eq (hs : s.owned) : s.arm = .ok { s.resetColumn with
    active := true
    cancelPending := true
    rstPending := true
    notReady := decide (s.cfg.rxPoolSize < 8) } := by
  have key : ∃ t, s.arm = .ok t := ⟨_, by simp only [State.arm, drainQueues_eq s hs]; rfl⟩
  obtain ⟨t, ht⟩ := key
  have hl : s.rxFreeList.length + s.rxQueue.length = s.cfg.rxPoolSize := by
    simpa using hs.2.length_eq
  rw [ht, arm_ok ht, hl]

end Sys2Proof.Machine
end

