-- ==== Sys2Proof/Laws/State.lean ====
section
/-!
SUPPORT. One lemma per field per update, for the updates of State that have a name and write without a
condition: what the field is afterwards. Each is true by rfl and a simp lemma, so that no proof unfolds a
record update.
-/

namespace Sys2Proof.Machine

variable (s : State)

/-! ### beginResponse -/

@[simp] theorem beginResponse_cfg : (s.beginResponse).cfg = s.cfg := rfl
@[simp] theorem beginResponse_active : (s.beginResponse).active = s.active := rfl
@[simp] theorem beginResponse_connected : (s.beginResponse).connected = s.connected := rfl
@[simp] theorem beginResponse_startPending : (s.beginResponse).startPending = s.startPending := rfl
@[simp] theorem beginResponse_startTime : (s.beginResponse).startTime = s.startTime := rfl
@[simp] theorem beginResponse_frmTx : (s.beginResponse).frmTx = s.frmTx := rfl
@[simp] theorem beginResponse_frmRx : (s.beginResponse).frmRx = s.frmRx := rfl
@[simp] theorem beginResponse_ackRx : (s.beginResponse).ackRx = s.ackRx := rfl
@[simp] theorem beginResponse_ackTx : (s.beginResponse).ackTx = s.ackTx := rfl
@[simp] theorem beginResponse_frmReTx : (s.beginResponse).frmReTx = s.frmReTx := rfl
@[simp] theorem beginResponse_sendState : (s.beginResponse).sendState = s.sendState := rfl
@[simp] theorem beginResponse_txFrame : (s.beginResponse).txFrame = s.txFrame := rfl
@[simp] theorem beginResponse_txKind : (s.beginResponse).txKind = s.txKind := rfl
@[simp] theorem beginResponse_cancelPending : (s.beginResponse).cancelPending = s.cancelPending := rfl
@[simp] theorem beginResponse_rstPending : (s.beginResponse).rstPending = s.rstPending := rfl
@[simp] theorem beginResponse_rstSent : (s.beginResponse).rstSent = s.rstSent := rfl
@[simp] theorem beginResponse_ackPending : (s.beginResponse).ackPending = s.ackPending := rfl
@[simp] theorem beginResponse_nakPending : (s.beginResponse).nakPending = s.nakPending := rfl
@[simp] theorem beginResponse_rejectCond : (s.beginResponse).rejectCond = s.rejectCond := rfl
@[simp] theorem beginResponse_retransmit : (s.beginResponse).retransmit = s.retransmit := rfl
@[simp] theorem beginResponse_notReady : (s.beginResponse).notReady = s.notReady := rfl
@[simp] theorem beginResponse_peerNotReady : (s.beginResponse).peerNotReady = s.peerNotReady := rfl
@[simp] theorem beginResponse_fatalStatus : (s.beginResponse).fatalStatus = s.fatalStatus := rfl
@[simp] theorem beginResponse_fatalCode : (s.beginResponse).fatalCode = s.fatalCode := rfl
@[simp] theorem beginResponse_fatalInfo : (s.beginResponse).fatalInfo = s.fatalInfo := rfl
@[simp] theorem beginResponse_ackTimer : (s.beginResponse).ackTimer = s.ackTimer := rfl
@[simp] theorem beginResponse_ackPeriod : (s.beginResponse).ackPeriod = s.ackPeriod := rfl
@[simp] theorem beginResponse_timeouts : (s.beginResponse).timeouts = s.timeouts := rfl
@[simp] theorem beginResponse_nrTimer : (s.beginResponse).nrTimer = s.nrTimer := rfl
@[simp] theorem beginResponse_txBuffers : (s.beginResponse).txBuffers = s.txBuffers := rfl
@[simp] theorem beginResponse_rxBuffers : (s.beginResponse).rxBuffers = s.rxBuffers := rfl
@[simp] theorem beginResponse_txFreeList : (s.beginResponse).txFreeList = s.txFreeList := rfl
@[simp] theorem beginResponse_rxFreeList : (s.beginResponse).rxFreeList = s.rxFreeList := rfl
@[simp] theorem beginResponse_txQueue : (s.beginResponse).txQueue = s.txQueue := rfl
@[simp] theorem beginResponse_reTxQueue : (s.beginResponse).reTxQueue = s.reTxQueue := rfl
@[simp] theorem beginResponse_rxQueue : (s.beginResponse).rxQueue = s.rxQueue := rfl
@[simp] theorem beginResponse_partialBytes : (s.beginResponse).partialBytes = s.partialBytes := rfl
@[simp] theorem beginResponse_partialOverflow : (s.beginResponse).partialOverflow = s.partialOverflow := rfl
@[simp] theorem beginResponse_counters : (s.beginResponse).counters = s.counters := rfl
@[simp] theorem beginResponse_resp : (s.beginResponse).resp = Response.empty := rfl
@[simp] theorem beginResponse_input : (s.beginResponse).input = s.input := rfl

/-! ### respond -/

@[simp] theorem respond_cfg (st : Status) : (s.respond st).cfg = s.cfg := rfl
@[simp] theorem respond_active (st : Status) : (s.respond st).active = s.active := rfl
@[simp] theorem respond_connected (st : Status) : (s.respond st).connected = s.connected := rfl
@[simp] theorem respond_startPending (st : Status) : (s.respond st).startPending = s.startPending := rfl
@[simp] theorem respond_startTime (st : Status) : (s.respond st).startTime = s.startTime := rfl
@[simp] theorem respond_frmTx (st : Status) : (s.respond st).frmTx = s.frmTx := rfl
@[simp] theorem respond_frmRx (st : Status) : (s.respond st).frmRx = s.frmRx := rfl
@[simp] theorem respond_ackRx (st : Status) : (s.respond st).ackRx = s.ackRx := rfl
@[simp] theorem respond_ackTx (st : Status) : (s.respond st).ackTx = s.ackTx := rfl
@[simp] theorem respond_frmReTx (st : Status) : (s.respond st).frmReTx = s.frmReTx := rfl
@[simp] theorem respond_sendState (st : Status) : (s.respond st).sendState = s.sendState := rfl
@[simp] theorem respond_txFrame (st : Status) : (s.respond st).txFrame = s.txFrame := rfl
@[simp] theorem respond_txKind (st : Status) : (s.respond st).txKind = s.txKind := rfl
@[simp] theorem respond_cancelPending (st : Status) : (s.respond st).cancelPending = s.cancelPending := rfl
@[simp] theorem respond_rstPending (st : Status) : (s.respond st).rstPending = s.rstPending := rfl
@[simp] theorem respond_rstSent (st : Status) : (s.respond st).rstSent = s.rstSent := rfl
@[simp] theorem respond_ackPending (st : Status) : (s.respond st).ackPending = s.ackPending := rfl
@[simp] theorem respond_nakPending (st : Status) : (s.respond st).nakPending = s.nakPending := rfl
@[simp] theorem respond_rejectCond (st : Status) : (s.respond st).rejectCond = s.rejectCond := rfl
@[simp] theorem respond_retransmit (st : Status) : (s.respond st).retransmit = s.retransmit := rfl
@[simp] theorem respond_notReady (st : Status) : (s.respond st).notReady = s.notReady := rfl
@[simp] theorem respond_peerNotReady (st : Status) : (s.respond st).peerNotReady = s.peerNotReady := rfl
@[simp] theorem respond_fatalStatus (st : Status) : (s.respond st).fatalStatus = s.fatalStatus := rfl
@[simp] theorem respond_fatalCode (st : Status) : (s.respond st).fatalCode = s.fatalCode := rfl
@[simp] theorem respond_fatalInfo (st : Status) : (s.respond st).fatalInfo = s.fatalInfo := rfl
@[simp] theorem respond_ackTimer (st : Status) : (s.respond st).ackTimer = s.ackTimer := rfl
@[simp] theorem respond_ackPeriod (st : Status) : (s.respond st).ackPeriod = s.ackPeriod := rfl
@[simp] theorem respond_timeouts (st : Status) : (s.respond st).timeouts = s.timeouts := rfl
@[simp] theorem respond_nrTimer (st : Status) : (s.respond st).nrTimer = s.nrTimer := rfl
@[simp] theorem respond_txBuffers (st : Status) : (s.respond st).txBuffers = s.txBuffers := rfl
@[simp] theorem respond_rxBuffers (st : Status) : (s.respond st).rxBuffers = s.rxBuffers := rfl
@[simp] theorem respond_txFreeList (st : Status) : (s.respond st).txFreeList = s.txFreeList := rfl
@[simp] theorem respond_rxFreeList (st : Status) : (s.respond st).rxFreeList = s.rxFreeList := rfl
@[simp] theorem respond_txQueue (st : Status) : (s.respond st).txQueue = s.txQueue := rfl
@[simp] theorem respond_reTxQueue (st : Status) : (s.respond st).reTxQueue = s.reTxQueue := rfl
@[simp] theorem respond_rxQueue (st : Status) : (s.respond st).rxQueue = s.rxQueue := rfl
@[simp] theorem respond_partialBytes (st : Status) : (s.respond st).partialBytes = s.partialBytes := rfl
@[simp] theorem respond_partialOverflow (st : Status) : (s.respond st).partialOverflow = s.partialOverflow := rfl
@[simp] theorem respond_counters (st : Status) : (s.respond st).counters = s.counters := rfl
@[simp] theorem respond_resp (st : Status) : (s.respond st).resp = { s.resp with status := st } := rfl
@[simp] theorem respond_input (st : Status) : (s.respond st).input = s.input := rfl

/-! ### setValue -/

@[simp] theorem setValue_cfg (v : Value) : (s.setValue v).cfg = s.cfg := rfl
@[simp] theorem setValue_active (v : Value) : (s.setValue v).active = s.active := rfl
@[simp] theorem setValue_connected (v : Value) : (s.setValue v).connected = s.connected := rfl
@[simp] theorem setValue_startPending (v : Value) : (s.setValue v).startPending = s.startPending := rfl
@[simp] theorem setValue_startTime (v : Value) : (s.setValue v).startTime = s.startTime := rfl
@[simp] theorem setValue_frmTx (v : Value) : (s.setValue v).frmTx = s.frmTx := rfl
@[simp] theorem setValue_frmRx (v : Value) : (s.setValue v).frmRx = s.frmRx := rfl
@[simp] theorem setValue_ackRx (v : Value) : (s.setValue v).ackRx = s.ackRx := rfl
@[simp] theorem setValue_ackTx (v : Value) : (s.setValue v).ackTx = s.ackTx := rfl
@[simp] theorem setValue_frmReTx (v : Value) : (s.setValue v).frmReTx = s.frmReTx := rfl
@[simp] theorem setValue_sendState (v : Value) : (s.setValue v).sendState = s.sendState := rfl
@[simp] theorem setValue_txFrame (v : Value) : (s.setValue v).txFrame = s.txFrame := rfl
@[simp] theorem setValue_txKind (v : Value) : (s.setValue v).txKind = s.txKind := rfl
@[simp] theorem setValue_cancelPending (v : Value) : (s.setValue v).cancelPending = s.cancelPending := rfl
@[simp] theorem setValue_rstPending (v : Value) : (s.setValue v).rstPending = s.rstPending := rfl
@[simp] theorem setValue_rstSent (v : Value) : (s.setValue v).rstSent = s.rstSent := rfl
@[simp] theorem setValue_ackPending (v : Value) : (s.setValue v).ackPending = s.ackPending := rfl
@[simp] theorem setValue_nakPending (v : Value) : (s.setValue v).nakPending = s.nakPending := rfl
@[simp] theorem setValue_rejectCond (v : Value) : (s.setValue v).rejectCond = s.rejectCond := rfl
@[simp] theorem setValue_retransmit (v : Value) : (s.setValue v).retransmit = s.retransmit := rfl
@[simp] theorem setValue_notReady (v : Value) : (s.setValue v).notReady = s.notReady := rfl
@[simp] theorem setValue_peerNotReady (v : Value) : (s.setValue v).peerNotReady = s.peerNotReady := rfl
@[simp] theorem setValue_fatalStatus (v : Value) : (s.setValue v).fatalStatus = s.fatalStatus := rfl
@[simp] theorem setValue_fatalCode (v : Value) : (s.setValue v).fatalCode = s.fatalCode := rfl
@[simp] theorem setValue_fatalInfo (v : Value) : (s.setValue v).fatalInfo = s.fatalInfo := rfl
@[simp] theorem setValue_ackTimer (v : Value) : (s.setValue v).ackTimer = s.ackTimer := rfl
@[simp] theorem setValue_ackPeriod (v : Value) : (s.setValue v).ackPeriod = s.ackPeriod := rfl
@[simp] theorem setValue_timeouts (v : Value) : (s.setValue v).timeouts = s.timeouts := rfl
@[simp] theorem setValue_nrTimer (v : Value) : (s.setValue v).nrTimer = s.nrTimer := rfl
@[simp] theorem setValue_txBuffers (v : Value) : (s.setValue v).txBuffers = s.txBuffers := rfl
@[simp] theorem setValue_rxBuffers (v : Value) : (s.setValue v).rxBuffers = s.rxBuffers := rfl
@[simp] theorem setValue_txFreeList (v : Value) : (s.setValue v).txFreeList = s.txFreeList := rfl
@[simp] theorem setValue_rxFreeList (v : Value) : (s.setValue v).rxFreeList = s.rxFreeList := rfl
@[simp] theorem setValue_txQueue (v : Value) : (s.setValue v).txQueue = s.txQueue := rfl
@[simp] theorem setValue_reTxQueue (v : Value) : (s.setValue v).reTxQueue = s.reTxQueue := rfl
@[simp] theorem setValue_rxQueue (v : Value) : (s.setValue v).rxQueue = s.rxQueue := rfl
@[simp] theorem setValue_partialBytes (v : Value) : (s.setValue v).partialBytes = s.partialBytes := rfl
@[simp] theorem setValue_partialOverflow (v : Value) : (s.setValue v).partialOverflow = s.partialOverflow := rfl
@[simp] theorem setValue_counters (v : Value) : (s.setValue v).counters = s.counters := rfl
@[simp] theorem setValue_resp (v : Value) : (s.setValue v).resp = { s.resp with value := v } := rfl
@[simp] theorem setValue_input (v : Value) : (s.setValue v).input = s.input := rfl

/-! ### emit -/

@[simp] theorem emit_cfg (b : Byte) : (s.emit b).cfg = s.cfg := rfl
@[simp] theorem emit_active (b : Byte) : (s.emit b).active = s.active := rfl
@[simp] theorem emit_connected (b : Byte) : (s.emit b).connected = s.connected := rfl
@[simp] theorem emit_startPending (b : Byte) : (s.emit b).startPending = s.startPending := rfl
@[simp] theorem emit_startTime (b : Byte) : (s.emit b).startTime = s.startTime := rfl
@[simp] theorem emit_frmTx (b : Byte) : (s.emit b).frmTx = s.frmTx := rfl
@[simp] theorem emit_frmRx (b : Byte) : (s.emit b).frmRx = s.frmRx := rfl
@[simp] theorem emit_ackRx (b : Byte) : (s.emit b).ackRx = s.ackRx := rfl
@[simp] theorem emit_ackTx (b : Byte) : (s.emit b).ackTx = s.ackTx := rfl
@[simp] theorem emit_frmReTx (b : Byte) : (s.emit b).frmReTx = s.frmReTx := rfl
@[simp] theorem emit_sendState (b : Byte) : (s.emit b).sendState = s.sendState := rfl
@[simp] theorem emit_txFrame (b : Byte) : (s.emit b).txFrame = s.txFrame := rfl
@[simp] theorem emit_txKind (b : Byte) : (s.emit b).txKind = s.txKind := rfl
@[simp] theorem emit_cancelPending (b : Byte) : (s.emit b).cancelPending = s.cancelPending := rfl
@[simp] theorem emit_rstPending (b : Byte) : (s.emit b).rstPending = s.rstPending := rfl
@[simp] theorem emit_rstSent (b : Byte) : (s.emit b).rstSent = s.rstSent := rfl
@[simp] theorem emit_ackPending (b : Byte) : (s.emit b).ackPending = s.ackPending := rfl
@[simp] theorem emit_nakPending (b : Byte) : (s.emit b).nakPending = s.nakPending := rfl
@[simp] theorem emit_rejectCond (b : Byte) : (s.emit b).rejectCond = s.rejectCond := rfl
@[simp] theorem emit_retransmit (b : Byte) : (s.emit b).retransmit = s.retransmit := rfl
@[simp] theorem emit_notReady (b : Byte) : (s.emit b).notReady = s.notReady := rfl
@[simp] theorem emit_peerNotReady (b : Byte) : (s.emit b).peerNotReady = s.peerNotReady := rfl
@[simp] theorem emit_fatalStatus (b : Byte) : (s.emit b).fatalStatus = s.fatalStatus := rfl
@[simp] theorem emit_fatalCode (b : Byte) : (s.emit b).fatalCode = s.fatalCode := rfl
@[simp] theorem emit_fatalInfo (b : Byte) : (s.emit b).fatalInfo = s.fatalInfo := rfl
@[simp] theorem emit_ackTimer (b : Byte) : (s.emit b).ackTimer = s.ackTimer := rfl
@[simp] theorem emit_ackPeriod (b : Byte) : (s.emit b).ackPeriod = s.ackPeriod := rfl
@[simp] theorem emit_timeouts (b : Byte) : (s.emit b).timeouts = s.timeouts := rfl
@[simp] theorem emit_nrTimer (b : Byte) : (s.emit b).nrTimer = s.nrTimer := rfl
@[simp] theorem emit_txBuffers (b : Byte) : (s.emit b).txBuffers = s.txBuffers := rfl
@[simp] theorem emit_rxBuffers (b : Byte) : (s.emit b).rxBuffers = s.rxBuffers := rfl
@[simp] theorem emit_txFreeList (b : Byte) : (s.emit b).txFreeList = s.txFreeList := rfl
@[simp] theorem emit_rxFreeList (b : Byte) : (s.emit b).rxFreeList = s.rxFreeList := rfl
@[simp] theorem emit_txQueue (b : Byte) : (s.emit b).txQueue = s.txQueue := rfl
@[simp] theorem emit_reTxQueue (b : Byte) : (s.emit b).reTxQueue = s.reTxQueue := rfl
@[simp] theorem emit_rxQueue (b : Byte) : (s.emit b).rxQueue = s.rxQueue := rfl
@[simp] theorem emit_partialBytes (b : Byte) : (s.emit b).partialBytes = s.partialBytes := rfl
@[simp] theorem emit_partialOverflow (b : Byte) : (s.emit b).partialOverflow = s.partialOverflow := rfl
@[simp] theorem emit_counters (b : Byte) : (s.emit b).counters = s.counters := rfl
@[simp] theorem emit_resp (b : Byte) : (s.emit b).resp = { s.resp with out := s.resp.out ++ [b] } := rfl
@[simp] theorem emit_input (b : Byte) : (s.emit b).input = s.input := rfl

/-! ### signal -/

@[simp] theorem signal_cfg (e : Event) : (s.signal e).cfg = s.cfg := rfl
@[simp] theorem signal_active (e : Event) : (s.signal e).active = s.active := rfl
@[simp] theorem signal_connected (e : Event) : (s.signal e).connected = s.connected := rfl
@[simp] theorem signal_startPending (e : Event) : (s.signal e).startPending = s.startPending := rfl
@[simp] theorem signal_startTime (e : Event) : (s.signal e).startTime = s.startTime := rfl
@[simp] theorem signal_frmTx (e : Event) : (s.signal e).frmTx = s.frmTx := rfl
@[simp] theorem signal_frmRx (e : Event) : (s.signal e).frmRx = s.frmRx := rfl
@[simp] theorem signal_ackRx (e : Event) : (s.signal e).ackRx = s.ackRx := rfl
@[simp] theorem signal_ackTx (e : Event) : (s.signal e).ackTx = s.ackTx := rfl
@[simp] theorem signal_frmReTx (e : Event) : (s.signal e).frmReTx = s.frmReTx := rfl
@[simp] theorem signal_sendState (e : Event) : (s.signal e).sendState = s.sendState := rfl
@[simp] theorem signal_txFrame (e : Event) : (s.signal e).txFrame = s.txFrame := rfl
@[simp] theorem signal_txKind (e : Event) : (s.signal e).txKind = s.txKind := rfl
@[simp] theorem signal_cancelPending (e : Event) : (s.signal e).cancelPending = s.cancelPending := rfl
@[simp] theorem signal_rstPending (e : Event) : (s.signal e).rstPending = s.rstPending := rfl
@[simp] theorem signal_rstSent (e : Event) : (s.signal e).rstSent = s.rstSent := rfl
@[simp] theorem signal_ackPending (e : Event) : (s.signal e).ackPending = s.ackPending := rfl
@[simp] theorem signal_nakPending (e : Event) : (s.signal e).nakPending = s.nakPending := rfl
@[simp] theorem signal_rejectCond (e : Event) : (s.signal e).rejectCond = s.rejectCond := rfl
@[simp] theorem signal_retransmit (e : Event) : (s.signal e).retransmit = s.retransmit := rfl
@[simp] theorem signal_notReady (e : Event) : (s.signal e).notReady = s.notReady := rfl
@[simp] theorem signal_peerNotReady (e : Event) : (s.signal e).peerNotReady = s.peerNotReady := rfl
@[simp] theorem signal_fatalStatus (e : Event) : (s.signal e).fatalStatus = s.fatalStatus := rfl
@[simp] theorem signal_fatalCode (e : Event) : (s.signal e).fatalCode = s.fatalCode := rfl
@[simp] theorem signal_fatalInfo (e : Event) : (s.signal e).fatalInfo = s.fatalInfo := rfl
@[simp] theorem signal_ackTimer (e : Event) : (s.signal e).ackTimer = s.ackTimer := rfl
@[simp] theorem signal_ackPeriod (e : Event) : (s.signal e).ackPeriod = s.ackPeriod := rfl
@[simp] theorem signal_timeouts (e : Event) : (s.signal e).timeouts = s.timeouts := rfl
@[simp] theorem signal_nrTimer (e : Event) : (s.signal e).nrTimer = s.nrTimer := rfl
@[simp] theorem signal_txBuffers (e : Event) : (s.signal e).txBuffers = s.txBuffers := rfl
@[simp] theorem signal_rxBuffers (e : Event) : (s.signal e).rxBuffers = s.rxBuffers := rfl
@[simp] theorem signal_txFreeList (e : Event) : (s.signal e).txFreeList = s.txFreeList := rfl
@[simp] theorem signal_rxFreeList (e : Event) : (s.signal e).rxFreeList = s.rxFreeList := rfl
@[simp] theorem signal_txQueue (e : Event) : (s.signal e).txQueue = s.txQueue := rfl
@[simp] theorem signal_reTxQueue (e : Event) : (s.signal e).reTxQueue = s.reTxQueue := rfl
@[simp] theorem signal_rxQueue (e : Event) : (s.signal e).rxQueue = s.rxQueue := rfl
@[simp] theorem signal_partialBytes (e : Event) : (s.signal e).partialBytes = s.partialBytes := rfl
@[simp] theorem signal_partialOverflow (e : Event) : (s.signal e).partialOverflow = s.partialOverflow := rfl
@[simp] theorem signal_counters (e : Event) : (s.signal e).counters = s.counters := rfl
@[simp] theorem signal_resp (e : Event) : (s.signal e).resp = { s.resp with events := s.resp.events ++ [e] } := rfl
@[simp] theorem signal_input (e : Event) : (s.signal e).input = s.input := rfl

/-! ### ackTimerStart -/

@[simp] theorem ackTimerStart_cfg (now : Time) : (s.ackTimerStart now).cfg = s.cfg := rfl
@[simp] theorem ackTimerStart_active (now : Time) : (s.ackTimerStart now).active = s.active := rfl
@[simp] theorem ackTimerStart_connected (now : Time) : (s.ackTimerStart now).connected = s.connected := rfl
@[simp] theorem ackTimerStart_startPending (now : Time) : (s.ackTimerStart now).startPending = s.startPending := rfl
@[simp] theorem ackTimerStart_startTime (now : Time) : (s.ackTimerStart now).startTime = s.startTime := rfl
@[simp] theorem ackTimerStart_frmTx (now : Time) : (s.ackTimerStart now).frmTx = s.frmTx := rfl
@[simp] theorem ackTimerStart_frmRx (now : Time) : (s.ackTimerStart now).frmRx = s.frmRx := rfl
@[simp] theorem ackTimerStart_ackRx (now : Time) : (s.ackTimerStart now).ackRx = s.ackRx := rfl
@[simp] theorem ackTimerStart_ackTx (now : Time) : (s.ackTimerStart now).ackTx = s.ackTx := rfl
@[simp] theorem ackTimerStart_frmReTx (now : Time) : (s.ackTimerStart now).frmReTx = s.frmReTx := rfl
@[simp] theorem ackTimerStart_sendState (now : Time) : (s.ackTimerStart now).sendState = s.sendState := rfl
@[simp] theorem ackTimerStart_txFrame (now : Time) : (s.ackTimerStart now).txFrame = s.txFrame := rfl
@[simp] theorem ackTimerStart_txKind (now : Time) : (s.ackTimerStart now).txKind = s.txKind := rfl
@[simp] theorem ackTimerStart_cancelPending (now : Time) : (s.ackTimerStart now).cancelPending = s.cancelPending := rfl
@[simp] theorem ackTimerStart_rstPending (now : Time) : (s.ackTimerStart now).rstPending = s.rstPending := rfl
@[simp] theorem ackTimerStart_rstSent (now : Time) : (s.ackTimerStart now).rstSent = s.rstSent := rfl
@[simp] theorem ackTimerStart_ackPending (now : Time) : (s.ackTimerStart now).ackPending = s.ackPending := rfl
@[simp] theorem ackTimerStart_nakPending (now : Time) : (s.ackTimerStart now).nakPending = s.nakPending := rfl
@[simp] theorem ackTimerStart_rejectCond (now : Time) : (s.ackTimerStart now).rejectCond = s.rejectCond := rfl
@[simp] theorem ackTimerStart_retransmit (now : Time) : (s.ackTimerStart now).retransmit = s.retransmit := rfl
@[simp] theorem ackTimerStart_notReady (now : Time) : (s.ackTimerStart now).notReady = s.notReady := rfl
@[simp] theorem ackTimerStart_peerNotReady (now : Time) : (s.ackTimerStart now).peerNotReady = s.peerNotReady := rfl
@[simp] theorem ackTimerStart_fatalStatus (now : Time) : (s.ackTimerStart now).fatalStatus = s.fatalStatus := rfl
@[simp] theorem ackTimerStart_fatalCode (now : Time) : (s.ackTimerStart now).fatalCode = s.fatalCode := rfl
@[simp] theorem ackTimerStart_fatalInfo (now : Time) : (s.ackTimerStart now).fatalInfo = s.fatalInfo := rfl
@[simp] theorem ackTimerStart_ackTimer (now : Time) : (s.ackTimerStart now).ackTimer = { running := true, start := now } := rfl
@[simp] theorem ackTimerStart_ackPeriod (now : Time) : (s.ackTimerStart now).ackPeriod = s.ackPeriod := rfl
@[simp] theorem ackTimerStart_timeouts (now : Time) : (s.ackTimerStart now).timeouts = s.timeouts := rfl
@[simp] theorem ackTimerStart_nrTimer (now : Time) : (s.ackTimerStart now).nrTimer = s.nrTimer := rfl
@[simp] theorem ackTimerStart_txBuffers (now : Time) : (s.ackTimerStart now).txBuffers = s.txBuffers := rfl
@[simp] theorem ackTimerStart_rxBuffers (now : Time) : (s.ackTimerStart now).rxBuffers = s.rxBuffers := rfl
@[simp] theorem ackTimerStart_txFreeList (now : Time) : (s.ackTimerStart now).txFreeList = s.txFreeList := rfl
@[simp] theorem ackTimerStart_rxFreeList (now : Time) : (s.ackTimerStart now).rxFreeList = s.rxFreeList := rfl
@[simp] theorem ackTimerStart_txQueue (now : Time) : (s.ackTimerStart now).txQueue = s.txQueue := rfl
@[simp] theorem ackTimerStart_reTxQueue (now : Time) : (s.ackTimerStart now).reTxQueue = s.reTxQueue := rfl
@[simp] theorem ackTimerStart_rxQueue (now : Time) : (s.ackTimerStart now).rxQueue = s.rxQueue := rfl
@[simp] theorem ackTimerStart_partialBytes (now : Time) : (s.ackTimerStart now).partialBytes = s.partialBytes := rfl
@[simp] theorem ackTimerStart_partialOverflow (now : Time) : (s.ackTimerStart now).partialOverflow = s.partialOverflow := rfl
@[simp] theorem ackTimerStart_counters (now : Time) : (s.ackTimerStart now).counters = s.counters := rfl
@[simp] theorem ackTimerStart_resp (now : Time) : (s.ackTimerStart now).resp = s.resp := rfl
@[simp] theorem ackTimerStart_input (now : Time) : (s.ackTimerStart now).input = s.input := rfl

/-! ### ackTimerStop -/

@[simp] theorem ackTimerStop_cfg : (s.ackTimerStop).cfg = s.cfg := rfl
@[simp] theorem ackTimerStop_active : (s.ackTimerStop).active = s.active := rfl
@[simp] theorem ackTimerStop_connected : (s.ackTimerStop).connected = s.connected := rfl
@[simp] theorem ackTimerStop_startPending : (s.ackTimerStop).startPending = s.startPending := rfl
@[simp] theorem ackTimerStop_startTime : (s.ackTimerStop).startTime = s.startTime := rfl
@[simp] theorem ackTimerStop_frmTx : (s.ackTimerStop).frmTx = s.frmTx := rfl
@[simp] theorem ackTimerStop_frmRx : (s.ackTimerStop).frmRx = s.frmRx := rfl
@[simp] theorem ackTimerStop_ackRx : (s.ackTimerStop).ackRx = s.ackRx := rfl
@[simp] theorem ackTimerStop_ackTx : (s.ackTimerStop).ackTx = s.ackTx := rfl
@[simp] theorem ackTimerStop_frmReTx : (s.ackTimerStop).frmReTx = s.frmReTx := rfl
@[simp] theorem ackTimerStop_sendState : (s.ackTimerStop).sendState = s.sendState := rfl
@[simp] theorem ackTimerStop_txFrame : (s.ackTimerStop).txFrame = s.txFrame := rfl
@[simp] theorem ackTimerStop_txKind : (s.ackTimerStop).txKind = s.txKind := rfl
@[simp] theorem ackTimerStop_cancelPending : (s.ackTimerStop).cancelPending = s.cancelPending := rfl
@[simp] theorem ackTimerStop_rstPending : (s.ackTimerStop).rstPending = s.rstPending := rfl
@[simp] theorem ackTimerStop_rstSent : (s.ackTimerStop).rstSent = s.rstSent := rfl
@[simp] theorem ackTimerStop_ackPending : (s.ackTimerStop).ackPending = s.ackPending := rfl
@[simp] theorem ackTimerStop_nakPending : (s.ackTimerStop).nakPending = s.nakPending := rfl
@[simp] theorem ackTimerStop_rejectCond : (s.ackTimerStop).rejectCond = s.rejectCond := rfl
@[simp] theorem ackTimerStop_retransmit : (s.ackTimerStop).retransmit = s.retransmit := rfl
@[simp] theorem ackTimerStop_notReady : (s.ackTimerStop).notReady = s.notReady := rfl
@[simp] theorem ackTimerStop_peerNotReady : (s.ackTimerStop).peerNotReady = s.peerNotReady := rfl
@[simp] theorem ackTimerStop_fatalStatus : (s.ackTimerStop).fatalStatus = s.fatalStatus := rfl
@[simp] theorem ackTimerStop_fatalCode : (s.ackTimerStop).fatalCode = s.fatalCode := rfl
@[simp] theorem ackTimerStop_fatalInfo : (s.ackTimerStop).fatalInfo = s.fatalInfo := rfl
@[simp] theorem ackTimerStop_ackTimer : (s.ackTimerStop).ackTimer = { s.ackTimer with running := false } := rfl
@[simp] theorem ackTimerStop_ackPeriod : (s.ackTimerStop).ackPeriod = s.ackPeriod := rfl
@[simp] theorem ackTimerStop_timeouts : (s.ackTimerStop).timeouts = s.timeouts := rfl
@[simp] theorem ackTimerStop_nrTimer : (s.ackTimerStop).nrTimer = s.nrTimer := rfl
@[simp] theorem ackTimerStop_txBuffers : (s.ackTimerStop).txBuffers = s.txBuffers := rfl
@[simp] theorem ackTimerStop_rxBuffers : (s.ackTimerStop).rxBuffers = s.rxBuffers := rfl
@[simp] theorem ackTimerStop_txFreeList : (s.ackTimerStop).txFreeList = s.txFreeList := rfl
@[simp] theorem ackTimerStop_rxFreeList : (s.ackTimerStop).rxFreeList = s.rxFreeList := rfl
@[simp] theorem ackTimerStop_txQueue : (s.ackTimerStop).txQueue = s.txQueue := rfl
@[simp] theorem ackTimerStop_reTxQueue : (s.ackTimerStop).reTxQueue = s.reTxQueue := rfl
@[simp] theorem ackTimerStop_rxQueue : (s.ackTimerStop).rxQueue = s.rxQueue := rfl
@[simp] theorem ackTimerStop_partialBytes : (s.ackTimerStop).partialBytes = s.partialBytes := rfl
@[simp] theorem ackTimerStop_partialOverflow : (s.ackTimerStop).partialOverflow = s.partialOverflow := rfl
@[simp] theorem ackTimerStop_counters : (s.ackTimerStop).counters = s.counters := rfl
@[simp] theorem ackTimerStop_resp : (s.ackTimerStop).resp = s.resp := rfl
@[simp] theorem ackTimerStop_input : (s.ackTimerStop).input = s.input := rfl

/-! ### nrTimerStart -/

@[simp] theorem nrTimerStart_cfg (now : Time) : (s.nrTimerStart now).cfg = s.cfg := rfl
@[simp] theorem nrTimerStart_active (now : Time) : (s.nrTimerStart now).active = s.active := rfl
@[simp] theorem nrTimerStart_connected (now : Time) : (s.nrTimerStart now).connected = s.connected := rfl
@[simp] theorem nrTimerStart_startPending (now : Time) : (s.nrTimerStart now).startPending = s.startPending := rfl
@[simp] theorem nrTimerStart_startTime (now : Time) : (s.nrTimerStart now).startTime = s.startTime := rfl
@[simp] theorem nrTimerStart_frmTx (now : Time) : (s.nrTimerStart now).frmTx = s.frmTx := rfl
@[simp] theorem nrTimerStart_frmRx (now : Time) : (s.nrTimerStart now).frmRx = s.frmRx := rfl
@[simp] theorem nrTimerStart_ackRx (now : Time) : (s.nrTimerStart now).ackRx = s.ackRx := rfl
@[simp] theorem nrTimerStart_ackTx (now : Time) : (s.nrTimerStart now).ackTx = s.ackTx := rfl
@[simp] theorem nrTimerStart_frmReTx (now : Time) : (s.nrTimerStart now).frmReTx = s.frmReTx := rfl
@[simp] theorem nrTimerStart_sendState (now : Time) : (s.nrTimerStart now).sendState = s.sendState := rfl
@[simp] theorem nrTimerStart_txFrame (now : Time) : (s.nrTimerStart now).txFrame = s.txFrame := rfl
@[simp] theorem nrTimerStart_txKind (now : Time) : (s.nrTimerStart now).txKind = s.txKind := rfl
@[simp] theorem nrTimerStart_cancelPending (now : Time) : (s.nrTimerStart now).cancelPending = s.cancelPending := rfl
@[simp] theorem nrTimerStart_rstPending (now : Time) : (s.nrTimerStart now).rstPending = s.rstPending := rfl
@[simp] theorem nrTimerStart_rstSent (now : Time) : (s.nrTimerStart now).rstSent = s.rstSent := rfl
@[simp] theorem nrTimerStart_ackPending (now : Time) : (s.nrTimerStart now).ackPending = s.ackPending := rfl
@[simp] theorem nrTimerStart_nakPending (now : Time) : (s.nrTimerStart now).nakPending = s.nakPending := rfl
@[simp] theorem nrTimerStart_rejectCond (now : Time) : (s.nrTimerStart now).rejectCond = s.rejectCond := rfl
@[simp] theorem nrTimerStart_retransmit (now : Time) : (s.nrTimerStart now).retransmit = s.retransmit := rfl
@[simp] theorem nrTimerStart_notReady (now : Time) : (s.nrTimerStart now).notReady = s.notReady := rfl
@[simp] theorem nrTimerStart_peerNotReady (now : Time) : (s.nrTimerStart now).peerNotReady = s.peerNotReady := rfl
@[simp] theorem nrTimerStart_fatalStatus (now : Time) : (s.nrTimerStart now).fatalStatus = s.fatalStatus := rfl
@[simp] theorem nrTimerStart_fatalCode (now : Time) : (s.nrTimerStart now).fatalCode = s.fatalCode := rfl
@[simp] theorem nrTimerStart_fatalInfo (now : Time) : (s.nrTimerStart now).fatalInfo = s.fatalInfo := rfl
@[simp] theorem nrTimerStart_ackTimer (now : Time) : (s.nrTimerStart now).ackTimer = s.ackTimer := rfl
@[simp] theorem nrTimerStart_ackPeriod (now : Time) : (s.nrTimerStart now).ackPeriod = s.ackPeriod := rfl
@[simp] theorem nrTimerStart_timeouts (now : Time) : (s.nrTimerStart now).timeouts = s.timeouts := rfl
@[simp] theorem nrTimerStart_nrTimer (now : Time) : (s.nrTimerStart now).nrTimer = { running := true, start := now } := rfl
@[simp] theorem nrTimerStart_txBuffers (now : Time) : (s.nrTimerStart now).txBuffers = s.txBuffers := rfl
@[simp] theorem nrTimerStart_rxBuffers (now : Time) : (s.nrTimerStart now).rxBuffers = s.rxBuffers := rfl
@[simp] theorem nrTimerStart_txFreeList (now : Time) : (s.nrTimerStart now).txFreeList = s.txFreeList := rfl
@[simp] theorem nrTimerStart_rxFreeList (now : Time) : (s.nrTimerStart now).rxFreeList = s.rxFreeList := rfl
@[simp] theorem nrTimerStart_txQueue (now : Time) : (s.nrTimerStart now).txQueue = s.txQueue := rfl
@[simp] theorem nrTimerStart_reTxQueue (now : Time) : (s.nrTimerStart now).reTxQueue = s.reTxQueue := rfl
@[simp] theorem nrTimerStart_rxQueue (now : Time) : (s.nrTimerStart now).rxQueue = s.rxQueue := rfl
@[simp] theorem nrTimerStart_partialBytes (now : Time) : (s.nrTimerStart now).partialBytes = s.partialBytes := rfl
@[simp] theorem nrTimerStart_partialOverflow (now : Time) : (s.nrTimerStart now).partialOverflow = s.partialOverflow := rfl
@[simp] theorem nrTimerStart_counters (now : Time) : (s.nrTimerStart now).counters = s.counters := rfl
@[simp] theorem nrTimerStart_resp (now : Time) : (s.nrTimerStart now).resp = s.resp := rfl
@[simp] theorem nrTimerStart_input (now : Time) : (s.nrTimerStart now).input = s.input := rfl

/-! ### nrTimerStop -/

@[simp] theorem nrTimerStop_cfg : (s.nrTimerStop).cfg = s.cfg := rfl
@[simp] theorem nrTimerStop_active : (s.nrTimerStop).active = s.active := rfl
@[simp] theorem nrTimerStop_connected : (s.nrTimerStop).connected = s.connected := rfl
@[simp] theorem nrTimerStop_startPending : (s.nrTimerStop).startPending = s.startPending := rfl
@[simp] theorem nrTimerStop_startTime : (s.nrTimerStop).startTime = s.startTime := rfl
@[simp] theorem nrTimerStop_frmTx : (s.nrTimerStop).frmTx = s.frmTx := rfl
@[simp] theorem nrTimerStop_frmRx : (s.nrTimerStop).frmRx = s.frmRx := rfl
@[simp] theorem nrTimerStop_ackRx : (s.nrTimerStop).ackRx = s.ackRx := rfl
@[simp] theorem nrTimerStop_ackTx : (s.nrTimerStop).ackTx = s.ackTx := rfl
@[simp] theorem nrTimerStop_frmReTx : (s.nrTimerStop).frmReTx = s.frmReTx := rfl
@[simp] theorem nrTimerStop_sendState : (s.nrTimerStop).sendState = s.sendState := rfl
@[simp] theorem nrTimerStop_txFrame : (s.nrTimerStop).txFrame = s.txFrame := rfl
@[simp] theorem nrTimerStop_txKind : (s.nrTimerStop).txKind = s.txKind := rfl
@[simp] theorem nrTimerStop_cancelPending : (s.nrTimerStop).cancelPending = s.cancelPending := rfl
@[simp] theorem nrTimerStop_rstPending : (s.nrTimerStop).rstPending = s.rstPending := rfl
@[simp] theorem nrTimerStop_rstSent : (s.nrTimerStop).rstSent = s.rstSent := rfl
@[simp] theorem nrTimerStop_ackPending : (s.nrTimerStop).ackPending = s.ackPending := rfl
@[simp] theorem nrTimerStop_nakPending : (s.nrTimerStop).nakPending = s.nakPending := rfl
@[simp] theorem nrTimerStop_rejectCond : (s.nrTimerStop).rejectCond = s.rejectCond := rfl
@[simp] theorem nrTimerStop_retransmit : (s.nrTimerStop).retransmit = s.retransmit := rfl
@[simp] theorem nrTimerStop_notReady : (s.nrTimerStop).notReady = s.notReady := rfl
@[simp] theorem nrTimerStop_peerNotReady : (s.nrTimerStop).peerNotReady = s.peerNotReady := rfl
@[simp] theorem nrTimerStop_fatalStatus : (s.nrTimerStop).fatalStatus = s.fatalStatus := rfl
@[simp] theorem nrTimerStop_fatalCode : (s.nrTimerStop).fatalCode = s.fatalCode := rfl
@[simp] theorem nrTimerStop_fatalInfo : (s.nrTimerStop).fatalInfo = s.fatalInfo := rfl
@[simp] theorem nrTimerStop_ackTimer : (s.nrTimerStop).ackTimer = s.ackTimer := rfl
@[simp] theorem nrTimerStop_ackPeriod : (s.nrTimerStop).ackPeriod = s.ackPeriod := rfl
@[simp] theorem nrTimerStop_timeouts : (s.nrTimerStop).timeouts = s.timeouts := rfl
@[simp] theorem nrTimerStop_nrTimer : (s.nrTimerStop).nrTimer = { s.nrTimer with running := false } := rfl
@[simp] theorem nrTimerStop_txBuffers : (s.nrTimerStop).txBuffers = s.txBuffers := rfl
@[simp] theorem nrTimerStop_rxBuffers : (s.nrTimerStop).rxBuffers = s.rxBuffers := rfl
@[simp] theorem nrTimerStop_txFreeList : (s.nrTimerStop).txFreeList = s.txFreeList := rfl
@[simp] theorem nrTimerStop_rxFreeList : (s.nrTimerStop).rxFreeList = s.rxFreeList := rfl
@[simp] theorem nrTimerStop_txQueue : (s.nrTimerStop).txQueue = s.txQueue := rfl
@[simp] theorem nrTimerStop_reTxQueue : (s.nrTimerStop).reTxQueue = s.reTxQueue := rfl
@[simp] theorem nrTimerStop_rxQueue : (s.nrTimerStop).rxQueue = s.rxQueue := rfl
@[simp] theorem nrTimerStop_partialBytes : (s.nrTimerStop).partialBytes = s.partialBytes := rfl
@[simp] theorem nrTimerStop_partialOverflow : (s.nrTimerStop).partialOverflow = s.partialOverflow := rfl
@[simp] theorem nrTimerStop_counters : (s.nrTimerStop).counters = s.counters := rfl
@[simp] theorem nrTimerStop_resp : (s.nrTimerStop).resp = s.resp := rfl
@[simp] theorem nrTimerStop_input : (s.nrTimerStop).input = s.input := rfl

/-! ### startRetransmit -/

@[simp] theorem startRetransmit_cfg : (s.startRetransmit).cfg = s.cfg := rfl
@[simp] theorem startRetransmit_active : (s.startRetransmit).active = s.active := rfl
@[simp] theorem startRetransmit_connected : (s.startRetransmit).connected = s.connected := rfl
@[simp] theorem startRetransmit_startPending : (s.startRetransmit).startPending = s.startPending := rfl
@[simp] theorem startRetransmit_startTime : (s.startRetransmit).startTime = s.startTime := rfl
@[simp] theorem startRetransmit_frmTx : (s.startRetransmit).frmTx = s.frmTx := rfl
@[simp] theorem startRetransmit_frmRx : (s.startRetransmit).frmRx = s.frmRx := rfl
@[simp] theorem startRetransmit_ackRx : (s.startRetransmit).ackRx = s.ackRx := rfl
@[simp] theorem startRetransmit_ackTx : (s.startRetransmit).ackTx = s.ackTx := rfl
@[simp] theorem startRetransmit_frmReTx : (s.startRetransmit).frmReTx = s.ackRx := rfl
@[simp] theorem startRetransmit_sendState : (s.startRetransmit).sendState = s.sendState := rfl
@[simp] theorem startRetransmit_txFrame : (s.startRetransmit).txFrame = s.txFrame := rfl
@[simp] theorem startRetransmit_txKind : (s.startRetransmit).txKind = s.txKind := rfl
@[simp] theorem startRetransmit_cancelPending : (s.startRetransmit).cancelPending = s.cancelPending := rfl
@[simp] theorem startRetransmit_rstPending : (s.startRetransmit).rstPending = s.rstPending := rfl
@[simp] theorem startRetransmit_rstSent : (s.startRetransmit).rstSent = s.rstSent := rfl
@[simp] theorem startRetransmit_ackPending : (s.startRetransmit).ackPending = s.ackPending := rfl
@[simp] theorem startRetransmit_nakPending : (s.startRetransmit).nakPending = s.nakPending := rfl
@[simp] theorem startRetransmit_rejectCond : (s.startRetransmit).rejectCond = s.rejectCond := rfl
@[simp] theorem startRetransmit_retransmit : (s.startRetransmit).retransmit = true := rfl
@[simp] theorem startRetransmit_notReady : (s.startRetransmit).notReady = s.notReady := rfl
@[simp] theorem startRetransmit_peerNotReady : (s.startRetransmit).peerNotReady = s.peerNotReady := rfl
@[simp] theorem startRetransmit_fatalStatus : (s.startRetransmit).fatalStatus = s.fatalStatus := rfl
@[simp] theorem startRetransmit_fatalCode : (s.startRetransmit).fatalCode = s.fatalCode := rfl
@[simp] theorem startRetransmit_fatalInfo : (s.startRetransmit).fatalInfo = s.fatalInfo := rfl
@[simp] theorem startRetransmit_ackTimer : (s.startRetransmit).ackTimer = s.ackTimer := rfl
@[simp] theorem startRetransmit_ackPeriod : (s.startRetransmit).ackPeriod = s.ackPeriod := rfl
@[simp] theorem startRetransmit_timeouts : (s.startRetransmit).timeouts = s.timeouts := rfl
@[simp] theorem startRetransmit_nrTimer : (s.startRetransmit).nrTimer = s.nrTimer := rfl
@[simp] theorem startRetransmit_txBuffers : (s.startRetransmit).txBuffers = s.txBuffers := rfl
@[simp] theorem startRetransmit_rxBuffers : (s.startRetransmit).rxBuffers = s.rxBuffers := rfl
@[simp] theorem startRetransmit_txFreeList : (s.startRetransmit).txFreeList = s.txFreeList := rfl
@[simp] theorem startRetransmit_rxFreeList : (s.startRetransmit).rxFreeList = s.rxFreeList := rfl
@[simp] theorem startRetransmit_txQueue : (s.startRetransmit).txQueue = s.txQueue := rfl
@[simp] theorem startRetransmit_reTxQueue : (s.startRetransmit).reTxQueue = s.reTxQueue := rfl
@[simp] theorem startRetransmit_rxQueue : (s.startRetransmit).rxQueue = s.rxQueue := rfl
@[simp] theorem startRetransmit_partialBytes : (s.startRetransmit).partialBytes = s.partialBytes := rfl
@[simp] theorem startRetransmit_partialOverflow : (s.startRetransmit).partialOverflow = s.partialOverflow := rfl
@[simp] theorem startRetransmit_counters : (s.startRetransmit).counters = s.counters := rfl
@[simp] theorem startRetransmit_resp : (s.startRetransmit).resp = s.resp := rfl
@[simp] theorem startRetransmit_input : (s.startRetransmit).input = s.input := rfl

/-! ### offer -/

@[simp] theorem offer_cfg (i : Input) : (s.offer i).cfg = s.cfg := rfl
@[simp] theorem offer_active (i : Input) : (s.offer i).active = s.active := rfl
@[simp] theorem offer_connected (i : Input) : (s.offer i).connected = s.connected := rfl
@[simp] theorem offer_startPending (i : Input) : (s.offer i).startPending = s.startPending := rfl
@[simp] theorem offer_startTime (i : Input) : (s.offer i).startTime = s.startTime := rfl
@[simp] theorem offer_frmTx (i : Input) : (s.offer i).frmTx = s.frmTx := rfl
@[simp] theorem offer_frmRx (i : Input) : (s.offer i).frmRx = s.frmRx := rfl
@[simp] theorem offer_ackRx (i : Input) : (s.offer i).ackRx = s.ackRx := rfl
@[simp] theorem offer_ackTx (i : Input) : (s.offer i).ackTx = s.ackTx := rfl
@[simp] theorem offer_frmReTx (i : Input) : (s.offer i).frmReTx = s.frmReTx := rfl
@[simp] theorem offer_sendState (i : Input) : (s.offer i).sendState = s.sendState := rfl
@[simp] theorem offer_txFrame (i : Input) : (s.offer i).txFrame = s.txFrame := rfl
@[simp] theorem offer_txKind (i : Input) : (s.offer i).txKind = s.txKind := rfl
@[simp] theorem offer_cancelPending (i : Input) : (s.offer i).cancelPending = s.cancelPending := rfl
@[simp] theorem offer_rstPending (i : Input) : (s.offer i).rstPending = s.rstPending := rfl
@[simp] theorem offer_rstSent (i : Input) : (s.offer i).rstSent = s.rstSent := rfl
@[simp] theorem offer_ackPending (i : Input) : (s.offer i).ackPending = s.ackPending := rfl
@[simp] theorem offer_nakPending (i : Input) : (s.offer i).nakPending = s.nakPending := rfl
@[simp] theorem offer_rejectCond (i : Input) : (s.offer i).rejectCond = s.rejectCond := rfl
@[simp] theorem offer_retransmit (i : Input) : (s.offer i).retransmit = s.retransmit := rfl
@[simp] theorem offer_notReady (i : Input) : (s.offer i).notReady = s.notReady := rfl
@[simp] theorem offer_peerNotReady (i : Input) : (s.offer i).peerNotReady = s.peerNotReady := rfl
@[simp] theorem offer_fatalStatus (i : Input) : (s.offer i).fatalStatus = s.fatalStatus := rfl
@[simp] theorem offer_fatalCode (i : Input) : (s.offer i).fatalCode = s.fatalCode := rfl
@[simp] theorem offer_fatalInfo (i : Input) : (s.offer i).fatalInfo = s.fatalInfo := rfl
@[simp] theorem offer_ackTimer (i : Input) : (s.offer i).ackTimer = s.ackTimer := rfl
@[simp] theorem offer_ackPeriod (i : Input) : (s.offer i).ackPeriod = s.ackPeriod := rfl
@[simp] theorem offer_timeouts (i : Input) : (s.offer i).timeouts = s.timeouts := rfl
@[simp] theorem offer_nrTimer (i : Input) : (s.offer i).nrTimer = s.nrTimer := rfl
@[simp] theorem offer_txBuffers (i : Input) : (s.offer i).txBuffers = s.txBuffers := rfl
@[simp] theorem offer_rxBuffers (i : Input) : (s.offer i).rxBuffers = s.rxBuffers := rfl
@[simp] theorem offer_txFreeList (i : Input) : (s.offer i).txFreeList = s.txFreeList := rfl
@[simp] theorem offer_rxFreeList (i : Input) : (s.offer i).rxFreeList = s.rxFreeList := rfl
@[simp] theorem offer_txQueue (i : Input) : (s.offer i).txQueue = s.txQueue := rfl
@[simp] theorem offer_reTxQueue (i : Input) : (s.offer i).reTxQueue = s.reTxQueue := rfl
@[simp] theorem offer_rxQueue (i : Input) : (s.offer i).rxQueue = s.rxQueue := rfl
@[simp] theorem offer_partialBytes (i : Input) : (s.offer i).partialBytes = s.partialBytes := rfl
@[simp] theorem offer_partialOverflow (i : Input) : (s.offer i).partialOverflow = s.partialOverflow := rfl
@[simp] theorem offer_counters (i : Input) : (s.offer i).counters = s.counters := rfl
@[simp] theorem offer_resp (i : Input) : (s.offer i).resp = s.resp := rfl
@[simp] theorem offer_input (i : Input) : (s.offer i).input = i :: s.input := rfl

end Sys2Proof.Machine
end

