-- ==== Sys2Proof/Laws/Exec.lean ====
section
/-!
SUPPORT. The shapes the meanings share: the response they start from, the gate of RX_CHUNK, TICK and the frames, and
the accepted SEND.
-/

namespace Sys2Proof.Machine

variable (s : State)

/-- The response starts empty. -/
theorem beginResponse_eq : s.beginResponse = { s with resp := Response.empty } := rfl

/-- A response with nothing but its status. -/
theorem respond_beginResponse (st : Status) : s.beginResponse.respond st = { s with resp := Response.bare st } := rfl

/-- On a live block the body runs and the status is that of the latch afterwards (R175, R176). -/
theorem whenLive_live (body : State → Result) (h : s.live) : s.beginResponse.whenLive body =
    match body { s with resp := Response.empty } with
    | .error f => .error f
    | .ok s' => .ok (s'.respond s'.fatalStatus.toStatus) := by
  unfold State.whenLive
  rw [if_neg (by simp [h.1]), if_neg (by simp [h.2])]
  rfl

/-- On an inactive block nothing runs. -/
theorem whenLive_inactive (body : State → Result) (h : s.active = false) :
    s.beginResponse.whenLive body = .ok { s with resp := Response.bare .notConnected } := by
  unfold State.whenLive
  rw [if_pos (by simp [h]), respond_beginResponse]

/-- On a fatal block nothing runs. -/
theorem whenLive_fatal (body : State → Result) (h : s.active = true) (hf : s.fatalStatus ≠ .none) :
    s.beginResponse.whenLive body = .ok { s with resp := Response.bare s.fatalStatus.toStatus } := by
  unfold State.whenLive
  rw [if_neg (by simp [h]), if_pos (by simpa using hf)]
  exact congrArg Except.ok (respond_beginResponse s _)

/-- A SEND that passes its checks goes on with the handle at the front of the free-list (R174). -/
theorem execSend_accepted {now : Time} {space : Space} {p : List Byte} {h : Nat} {fl : List Nat}
    (hf : s.fatalStatus = .none) (h1 : s.cfg.minDataLen ≤ p.length) (h2 : p.length ≤ s.cfg.maxDataLen)
    (hc : s.connected = true) (hfl : s.txFreeList = h :: fl) :
    exec (.send now space p) s =
      Result.outcome (State.sendAccepted now space p h { s with resp := Response.empty, txFreeList := fl }) := by
  simp [exec, execSend, hf, hc, Nat.not_lt.2 h1, Nat.not_lt.2 h2, State.txAllocate, hfl, State.beginResponse]

end Sys2Proof.Machine
end

