-- ==== Sys2Proof/Laws/Memory.lean ====
section
/-!
SUPPORT. The one operation that writes a buffer memory keeps its canonical form, and the memories of the
machine after reset have it.
-/

namespace Sys2Proof.Machine

/-- The handles of a memory after a write are the written one and those that were there. -/
theorem mem_write_key {m : Memory} {h : Nat} {v : List Byte} {e : Nat × List Byte} (he : e ∈ m.write h v) :
    e = (h, v) ∨ e ∈ m := by
  induction m with
  | nil => simp only [Memory.write] at he; split at he <;> simp_all
  | cons kw m ih =>
    obtain ⟨k, w⟩ := kw
    simp only [Memory.write] at he
    split at he
    · split at he <;> simp_all
    · split at he
      · split at he <;> simp_all; tauto
      · simp only [List.mem_cons] at he ⊢
        rcases he with rfl | he
        · exact .inr (.inl rfl)
        · rcases ih he with h | h
          · exact .inl h
          · exact .inr (.inr h)

/-- Every write keeps the canonical form. -/
theorem write_wf {m : Memory} (h : Nat) (v : List Byte) (hm : m.wf) : (m.write h v).wf := by
  induction m with
  | nil =>
    simp only [Memory.write]
    split
    · exact hm
    · rename_i hv; exact ⟨by simp, by simpa using hv⟩
  | cons kw m ih =>
    obtain ⟨k, w⟩ := kw
    obtain ⟨hp, hne⟩ := hm
    simp only [List.pairwise_cons] at hp
    have htail : Memory.wf m := ⟨hp.2, fun e he => hne e (List.mem_cons_of_mem _ he)⟩
    simp only [Memory.write]
    split
    · rename_i hlt
      split
      · exact ⟨by simpa using hp, hne⟩
      · rename_i hv
        refine ⟨?_, ?_⟩
        · simp only [List.pairwise_cons, List.mem_cons]
          refine ⟨?_, hp⟩
          rintro a (rfl | ha)
          · exact hlt
          · exact lt_trans hlt (hp.1 a ha)
        · intro e he
          rcases List.mem_cons.1 he with rfl | he
          · exact hv
          · exact hne e he
    · split
      · rename_i hk
        split
        · exact htail
        · rename_i hv
          refine ⟨?_, ?_⟩
          · simp only [List.pairwise_cons]
            exact ⟨fun a ha => hk ▸ hp.1 a ha, hp.2⟩
          · intro e he
            rcases List.mem_cons.1 he with rfl | he
            · exact hv
            · exact hne e (List.mem_cons_of_mem _ he)
      · rename_i hnlt hne'
        have ht := ih htail
        refine ⟨?_, ?_⟩
        · simp only [List.pairwise_cons]
          refine ⟨?_, ht.1⟩
          intro a ha
          rcases mem_write_key ha with rfl | ha
          · dsimp only; omega
          · exact hp.1 a ha
        · intro e he
          rcases List.mem_cons.1 he with rfl | he
          · exact hne _ (List.mem_cons_self ..)
          · exact ht.2 e he

/-- The buffer memories after reset are in canonical form. -/
theorem reset_memory_wf : State.reset.txBuffers.wf ∧ State.reset.rxBuffers.wf := by
  decide

end Sys2Proof.Machine
end

