-- ==== Sys2Proof/Laws/PerInstr.lean ====
section
/-!
SUPPORT. The family `EncodesToTableByte` over the constructors of `Instr`: an instruction's encoding is a command
record whose opcode is one of 0x01 to 0x0B (30_encoding.md R88), or the raw frame of a control byte that has a
frame type (R80); no instruction encodes to a reserved opcode or control byte (R91, R93).
-/

namespace Sys2Proof.Laws.EncodesToTableByte

open Sys2Proof Sys2Proof.Machine

/-- The encoding of the instruction starts from a byte of the opcode table. -/
def Statement (i : Instr) : Prop :=
  (∃ c : CommandRecord, encode i = .command c ∧ 1 ≤ c.op.toNat ∧ c.op.toNat ≤ 11) ∨
  (∃ (b : Byte) (d : List Byte) (now : Time), encode i = .rawFrame (rawFrameOf b d) false now ∧ frameType b ≠ .invalid)

theorem start (now : Time) (space : Space) : Statement (.start now space) := .inl ⟨_, rfl, by simp, by simp⟩

theorem stop : Statement .stop := .inl ⟨_, rfl, by simp, by simp⟩

theorem resetNcp : Statement .resetNcp := .inl ⟨_, rfl, by simp, by simp⟩

theorem send (now : Time) (space : Space) (payload : List Byte) : Statement (.send now space payload) :=
  .inl ⟨_, rfl, by simp, by simp⟩

theorem rxChunk (now : Time) (space : Space) (chunk : List Byte) : Statement (.rxChunk now space chunk) :=
  .inl ⟨_, rfl, by simp, by simp⟩

theorem tick (now : Time) (space : Space) : Statement (.tick now space) := .inl ⟨_, rfl, by simp, by simp⟩

theorem rxPop : Statement .rxPop := .inl ⟨_, rfl, by simp, by simp⟩

theorem isConnected : Statement .isConnected := .inl ⟨_, rfl, by simp, by simp⟩

theorem isIdle : Statement .isIdle := .inl ⟨_, rfl, by simp, by simp⟩

theorem countersRead : Statement .countersRead := .inl ⟨_, rfl, by simp, by simp⟩

theorem countersClear : Statement .countersClear := .inl ⟨_, rfl, by simp, by simp⟩

theorem data (now : Time) (frmNum : Seq) (rFlag : Bool) (ackNum : Seq) (payload : List Byte) :
    Statement (.data now frmNum rFlag ackNum payload) := by
  refine .inr ⟨dataControl frmNum rFlag ackNum, payload, now, rfl, ?_⟩
  revert frmNum rFlag ackNum
  decide

theorem ack (now : Time) (pFlag nFlag : Bool) (ackNum : Seq) : Statement (.ack now pFlag nFlag ackNum) := by
  refine .inr ⟨ackControl pFlag nFlag ackNum, [], now, rfl, ?_⟩
  revert pFlag nFlag ackNum
  decide

theorem nak (now : Time) (pFlag nFlag : Bool) (ackNum : Seq) : Statement (.nak now pFlag nFlag ackNum) := by
  refine .inr ⟨nakControl pFlag nFlag ackNum, [], now, rfl, ?_⟩
  revert pFlag nFlag ackNum
  decide

theorem rst : Statement .rst := .inr ⟨rstControl, [], 0, rfl, by decide⟩

theorem rstack (version resetReason : Byte) : Statement (.rstack version resetReason) :=
  .inr ⟨rstackControl, [version, resetReason], 0, rfl, by decide⟩

theorem error (version errorCode : Byte) : Statement (.error version errorCode) :=
  .inr ⟨errorControl, [version, errorCode], 0, rfl, by decide⟩

end Sys2Proof.Laws.EncodesToTableByte
end

