-- ==== Sys2Proof/Laws/Receive.lean ====
section
/-!
SUPPORT. One lemma for each shared operation of the receive machine: what it does, and for those that free buffers,
when they answer. The induction over the raw frames of a chunk is packaged once.
-/

namespace Sys2Proof.Machine

variable (s : State)

/-- `acceptData` with a free receive buffer (R262). -/
theorem acceptData_cons {h : Nat} {fl : List Nat} (payload : List Byte) (hf : s.rxFreeList = h :: fl) :
    s.acceptData payload = { s.flowColumn fl.length with
      rxFreeList := fl
      rxBuffers := s.rxBuffers.write h (randomize payload)
      rxQueue := s.rxQueue ++ [h]
      frmRx := s.frmRx + 1
      rejectCond := false
      ackPending := true
      resp := { s.resp with events := s.resp.events ++ [.frame] } } := by
  simp only [State.acceptData, State.rxAllocate, hf, State.storeData, nrEval_eq, State.flowColumn, State.signal, inc8]

/-- `acceptData` with no free receive buffer (R262). -/
theorem acceptData_nil (payload : List Byte) (hf : s.rxFreeList = []) :
    s.acceptData payload = { s with
      counters := { s.counters with rxNoBuffer := s.counters.rxNoBuffer + 1 }
      rejectCond := true
      nakPending := s.nakPending || !s.rejectCond } := by
  simp only [State.acceptData, State.rxAllocate, hf, State.countNoBuffer, reject_eq]

/-- `outOfSequence()` (R263): counted on the first of a run only. -/
theorem outOfSequence_eq : s.outOfSequence = { s with
    counters := { s.counters with
      rxOutOfSequence := if s.rejectCond then s.counters.rxOutOfSequence else s.counters.rxOutOfSequence + 1 }
    rejectCond := true
    nakPending := s.nakPending || !s.rejectCond } := by
  obtain ⟨⟩ := s
  simp only [State.outOfSequence, State.countOutOfSequence, reject_eq]
  split <;> simp_all

/-- The registers and lists after `processAck` of a new ack number (R232, R234, R257). -/
def State.ackColumn (a : Seq) (now : Time) (s : State) : State :=
  { s with
    ackPeriod := if s.ackTimer.running then adaptedPeriod s.ackPeriod (elapsed now s.ackTimer.start) else s.ackPeriod
    txFreeList := s.txFreeList ++ s.reTxQueue.take (dist8 s.ackRx a)
    reTxQueue := s.reTxQueue.drop (dist8 s.ackRx a)
    ackRx := a
    timeouts := 0
    frmReTx := if within a s.frmReTx s.frmTx then s.frmReTx else a
    retransmit := s.retransmit && (if within a s.frmReTx s.frmTx then s.frmReTx else a) != s.frmTx
    ackTimer := if a = s.frmTx then { running := false, start := s.ackTimer.start } else { running := true, start := now } }

theorem adaptPeriod_eq (now : Time) : s.adaptPeriod now = { s with
    ackPeriod := if s.ackTimer.running then adaptedPeriod s.ackPeriod (elapsed now s.ackTimer.start)
      else s.ackPeriod } := by
  obtain ⟨⟩ := s
  simp only [State.adaptPeriod]
  split <;> simp_all

/-- The part of `processAck` after the buffers are freed. -/
theorem advance_restart_eq (a : Seq) (now : Time) : (s.advanceAck a).restartOrStop now = { s with
    ackRx := a
    timeouts := 0
    frmReTx := if within a s.frmReTx s.frmTx then s.frmReTx else a
    retransmit := s.retransmit && (if within a s.frmReTx s.frmTx then s.frmReTx else a) != s.frmTx
    ackTimer := if a = s.frmTx then { running := false, start := s.ackTimer.start } else { running := true, start := now } } := by
  obtain ⟨⟩ := s
  simp only [State.advanceAck, State.restartOrStop, State.ackTimerStart, State.ackTimerStop]
  generalize (if within a _ _ = true then _ else a) = r
  have key (p : Bool) (x y : Seq) : (if (p && x == y) = true then false else p) = (p && x != y) := by
    cases p <;> cases h : x == y <;> simp [bne, h]
  split <;> rename_i h <;> simp only [bne_iff_ne, ne_eq, not_not] at h <;>
    simp only [h, if_true, if_false, key]

/-- What `processAck` leaves when it answers (R257). -/
theorem processAck_ok {a : Seq} {now : Time} {s t : State} (h : s.processAck a now = .ok t) :
    (a = s.ackRx ∧ t = s) ∨ (a ≠ s.ackRx ∧ dist8 s.ackRx a ≤ s.reTxQueue.length ∧ t = s.ackColumn a now) := by
  unfold State.processAck at h
  split at h
  · left; exact ⟨by assumption, by simpa [eq_comm] using h⟩
  · right
    rename_i hne
    split at h
    · cases h
    · rename_i s' hs'
      rw [adaptPeriod_eq] at hs'
      obtain ⟨hl, rfl⟩ := freeReTx_ok hs'
      simp only [advance_restart_eq, Except.ok.injEq] at h
      exact ⟨hne, hl, by rw [← h]; rfl⟩

/-- `processAck` answers when no handle has two owners and enough frames are outstanding. -/
theorem processAck_eq {a : Seq} {now : Time} {s : State} (hd : (s.txFreeList ++ s.txQueue ++ s.reTxQueue).Nodup)
    (hn : dist8 s.ackRx a ≤ s.reTxQueue.length) :
    s.processAck a now = .ok (if a = s.ackRx then s else s.ackColumn a now) := by
  unfold State.processAck
  split
  · rfl
  · rw [adaptPeriod_eq, freeReTx_eq (by exact hd) (by exact hn)]
    simp only [advance_restart_eq]
    rfl

/-- What every raw frame of a chunk keeps, all of them together keep (R144, R175). -/
theorem receiveAll_preserves (P : State → Prop) {now : Time}
    (hframe : ∀ (raw : List Byte) (ovf : Bool) (s t : State), P s → s.fatalStatus = .none →
      s.receiveFrame raw ovf now = .ok t → P t)
    {frames : List (List Byte × Bool)} {s t : State} (hs : P s) (h : s.receiveAll now frames = .ok t) : P t := by
  induction frames generalizing s with
  | nil => simp only [State.receiveAll, Except.ok.injEq] at h; exact h ▸ hs
  | cons f frames ih =>
    simp only [State.receiveAll] at h
    split at h
    · simp only [Except.ok.injEq] at h; exact h ▸ hs
    · rename_i hl
      split at h
      · cases h
      · rename_i s' hs'
        exact ih (hframe _ _ _ _ hs (by simpa using hl) hs') h

/-- When every raw frame answers from a state with `P` and keeps `P`, the whole chunk answers. -/
theorem receiveAll_answers (P : State → Prop) {now : Time}
    (hframe : ∀ (raw : List Byte) (ovf : Bool) (s : State), P s → s.fatalStatus = .none →
      ∃ t, s.receiveFrame raw ovf now = .ok t ∧ P t)
    (frames : List (List Byte × Bool)) {s : State} (hs : P s) : ∃ t, s.receiveAll now frames = .ok t := by
  induction frames generalizing s with
  | nil => exact ⟨s, rfl⟩
  | cons f frames ih =>
    simp only [State.receiveAll]
    split
    · exact ⟨s, rfl⟩
    · rename_i hl
      obtain ⟨t, ht, hP⟩ := hframe f.1 f.2 s hs (by simpa using hl)
      rw [ht]
      exact ih hP

end Sys2Proof.Machine
end

