-- ==== Sys2Proof/Laws/Send.lean ====
section
/-!
SUPPORT. One lemma for each shared operation of the send machine: the emission of a frame in progress, each row of the
selection, the loop, and the three timer checks of the tick. The induction over the loop is packaged once.
-/

namespace Sys2Proof.Machine

variable (s : State)

/-! ### Emission -/

/-- A byte that is not the last of its frame (R200). -/
theorem emitNext_cons {b c : Byte} {rest : List Byte} (h : s.txFrame = b :: c :: rest) :
    s.emitNext = { s.emit b with txFrame := c :: rest } := by
  simp only [State.emitNext, h]

/-- The last byte of a frame completes it (R200, R209). -/
theorem emitNext_last {b : Byte} (h : s.txFrame = [b]) :
    s.emitNext = { s.emit b with
      txFrame := [], rstSent := s.rstSent || s.txKind == .rst, txKind := .none, sendState := .idle } := by
  simp only [State.emitNext, h, State.frameDone, State.emit]
  cases hk : s.txKind <;> simp

/-- A budget that ends inside the frame in progress. -/
theorem sendLoop_inside {now : Time} {n : Nat} {s : State} (hn : n < s.txFrame.length) :
    s.sendLoop now n = .ok { s with
      txFrame := s.txFrame.drop n, resp := { s.resp with out := s.resp.out ++ s.txFrame.take n } } := by
  induction n generalizing s with
  | zero => simp [State.sendLoop]
  | succ n ih =>
    obtain ⟨b, c, rest, hf⟩ : ∃ b c rest, s.txFrame = b :: c :: rest := by
      match h : s.txFrame with
      | [] => simp [h] at hn
      | [b] => simp [h] at hn
      | b :: c :: rest => exact ⟨b, c, rest, rfl⟩
    have hne : s.txFrame ≠ [] := by simp [hf]
    simp only [State.sendLoop, hne, if_false]
    rw [emitNext_cons s hf, ih (by simp [hf] at hn ⊢; omega)]
    simp [State.emit, hf]

/-- A budget that reaches the end of the frame in progress goes on after it. -/
theorem sendLoop_through {now : Time} {m : Nat} {s : State} (hne : s.txFrame ≠ []) :
    s.sendLoop now (s.txFrame.length + m) = State.sendLoop now m { s with
      txFrame := [], rstSent := s.rstSent || s.txKind == .rst, txKind := .none, sendState := .idle,
      resp := { s.resp with out := s.resp.out ++ s.txFrame } } := by
  generalize hl : s.txFrame = f at hne
  induction f generalizing s with
  | nil => exact absurd rfl hne
  | cons b f ih =>
    have hs : s.txFrame ≠ [] := by simp [hl]
    have harith : (b :: f).length + m = (f.length + m) + 1 := by simp; omega
    rw [harith]
    simp only [State.sendLoop, hs, if_false]
    cases f with
    | nil => rw [emitNext_last s hl]; simp [State.emit]
    | cons c rest =>
      rw [emitNext_cons s hl, ih (s := { s.emit b with txFrame := c :: rest }) rfl (by simp)]
      simp [State.emit]

/-- The same, for a budget given as a number not below the length. -/
theorem sendLoop_past {now : Time} {n : Nat} {s : State} (hne : s.txFrame ≠ []) (hn : s.txFrame.length ≤ n) :
    s.sendLoop now n = State.sendLoop now (n - s.txFrame.length) { s with
      txFrame := [], rstSent := s.rstSent || s.txKind == .rst, txKind := .none, sendState := .idle,
      resp := { s.resp with out := s.resp.out ++ s.txFrame } } := by
  rw [← sendLoop_through hne, Nat.add_sub_cancel' hn]

/-- With a budget of at most the frame in progress. -/
theorem sendLoop_upto {now : Time} {n : Nat} {s : State} (hne : s.txFrame ≠ []) (hn : n ≤ s.txFrame.length) :
    s.sendLoop now n = .ok { s with
      txFrame := s.txFrame.drop n
      txKind := if n < s.txFrame.length then s.txKind else .none
      sendState := if n < s.txFrame.length then s.sendState else .idle
      rstSent := s.rstSent || (decide (n = s.txFrame.length) && s.txKind == .rst)
      resp := { s.resp with out := s.resp.out ++ s.txFrame.take n } } := by
  rcases Nat.lt_or_eq_of_le hn with h | rfl
  · rw [sendLoop_inside h]; simp [h, Nat.ne_of_lt h]
  · have := sendLoop_through (now := now) (m := 0) hne
    simp only [Nat.add_zero] at this
    rw [this]
    simp [State.sendLoop]

/-! ### Selection -/

/-- Nothing to send: the loop ends (R200). -/
theorem sendLoop_nothing {now : Time} {n : Nat} {s : State} (hf : s.txFrame = []) (h : s.select now = .ok .nothing) :
    s.sendLoop now n = .ok s := by
  cases n with
  | zero => rfl
  | succ n => simp only [State.sendLoop, hf, h, if_true]

/-- A picked frame is the frame in progress from then on (R200). -/
theorem sendLoop_picked {now : Time} {n : Nat} {s t : State} (hf : s.txFrame = [])
    (h : s.select now = .ok (.picked t)) (ht : t.txFrame ≠ []) : s.sendLoop now (n + 1) = t.sendLoop now (n + 1) := by
  conv_lhs => simp only [State.sendLoop, hf, h, if_true]
  conv_rhs => simp only [State.sendLoop, ht, if_false]

/-- A wire frame is never empty (R121). -/
theorem encodeFrame_ne_nil (c : Byte) (d : List Byte) : encodeFrame c d ≠ [] := by
  simp [encodeFrame]

/-- Every outcome of the selection, by the rows of R202. -/
theorem select_cases {now : Time} {s : State} {x : Selected} (h : s.select now = .ok x) :
    (s.cancelPending = true ∧ x = .cancel s.emitCancel) ∨
    (s.cancelPending = false ∧ s.rstPending = true ∧ x = .picked s.pickRst) ∨
    (s.cancelPending = false ∧ s.rstPending = false ∧ s.connected = true ∧ (s.nakPending = true ∨ s.ackPending = true) ∧
      x = .picked (s.pickAck now)) ∨
    (s.cancelPending = false ∧ s.rstPending = false ∧ s.connected = true ∧ s.nakPending = false ∧ s.ackPending = false ∧
      s.retransmit = true ∧ ∃ k t, s.reTxQueue[dist8 s.ackRx s.frmReTx]? = some k ∧ s.pickReData = .ok t ∧ x = .picked t ∧
        t = { s with
          txFrame := encodeFrame (dataControl s.frmReTx true s.frmRx) (s.txBuffers.read k)
          txKind := .redata
          sendState := .resendingData
          ackTx := s.frmRx
          frmReTx := s.frmReTx + 1
          retransmit := if s.frmReTx + 1 = s.frmTx then false else s.retransmit }) ∨
    (s.cancelPending = false ∧ s.rstPending = false ∧ s.connected = true ∧ s.nakPending = false ∧ s.ackPending = false ∧
      s.retransmit = false ∧ dist8 s.ackRx s.frmTx < s.cfg.txK ∧
      ∃ k rest, s.txQueue = k :: rest ∧ x = .picked (s.pickData k rest)) ∨
    (s.cancelPending = false ∧ s.rstPending = false ∧
      (s.connected = false ∨ (s.nakPending = false ∧ s.ackPending = false ∧ s.retransmit = false ∧
        (s.cfg.txK ≤ dist8 s.ackRx s.frmTx ∨ s.txQueue = []))) ∧ x = .nothing) := by
  unfold State.select at h
  cases hc : s.cancelPending
  case true => simp only [hc, if_true, Except.ok.injEq] at h; exact .inl ⟨rfl, h.symm⟩
  cases hr : s.rstPending
  case true => simp only [hc, hr, Bool.false_eq_true, if_true, if_false, Except.ok.injEq] at h; simp [← h]
  cases hcon : s.connected
  case false =>
    simp only [hc, hr, hcon, Bool.false_and, Bool.false_eq_true, if_false, Except.ok.injEq] at h
    simp [← h]
  simp only [hc, hr, hcon, Bool.true_and, Bool.false_eq_true, if_false, Bool.or_eq_true] at h
  split at h
  · rename_i ha
    simp only [Except.ok.injEq] at h
    exact .inr (.inr (.inl ⟨rfl, rfl, rfl, ha, h.symm⟩))
  rename_i ha
  simp only [not_or, Bool.not_eq_true] at ha
  split at h
  · rename_i hre
    split at h
    · rename_i t ht
      have ht' := ht
      unfold State.pickReData peekNth at ht
      split at ht
      · cases ht
      · rename_i k hk
        split at hk
        · rename_i k' hk'
          simp only [Except.ok.injEq] at hk ht h
          subst hk
          exact .inr (.inr (.inr (.inl ⟨rfl, rfl, rfl, ha.1, ha.2, hre, k', t, hk', ht', h.symm,
            by rw [← ht]; simp only [inc8, hc, hr, hcon, ha.1, ha.2, hre]⟩)))
        · cases hk
    · cases h
  rename_i hre
  simp only [Bool.not_eq_true] at hre
  split at h
  · rename_i hw
    simp only [State.windowOpen, decide_eq_true_eq] at hw
    split at h
    · rename_i k rest hq
      simp only [Except.ok.injEq] at h
      exact .inr (.inr (.inr (.inr (.inl ⟨rfl, rfl, rfl, ha.1, ha.2, hre, hw, k, rest, hq, h.symm⟩))))
    · rename_i hq
      simp only [Except.ok.injEq] at h
      exact .inr (.inr (.inr (.inr (.inr ⟨rfl, rfl, .inr ⟨ha.1, ha.2, hre, .inr hq⟩, h.symm⟩))))
  · rename_i hw
    simp only [State.windowOpen, decide_eq_true_eq, not_lt] at hw
    simp only [Except.ok.injEq] at h
    exact .inr (.inr (.inr (.inr (.inr ⟨rfl, rfl, .inr ⟨ha.1, ha.2, hre, .inl hw⟩, h.symm⟩))))

/-- What emission, the CANCEL and every picked frame keep, the loop keeps. -/
theorem sendLoop_preserves (P : State → Prop) {now : Time}
    (hemit : ∀ s : State, P s → s.txFrame ≠ [] → P s.emitNext)
    (hcancel : ∀ s t : State, P s → s.txFrame = [] → s.select now = .ok (.cancel t) → P t)
    (hpick : ∀ s t : State, P s → s.txFrame = [] → s.select now = .ok (.picked t) → P t ∧ t.txFrame ≠ [])
    {n : Nat} {s t : State} (hs : P s) (h : s.sendLoop now n = .ok t) : P t := by
  induction n generalizing s with
  | zero => simp only [State.sendLoop, Except.ok.injEq] at h; exact h ▸ hs
  | succ n ih =>
    simp only [State.sendLoop] at h
    split at h
    · rename_i hf
      split at h
      · cases h
      · simp only [Except.ok.injEq] at h; exact h ▸ hs
      · rename_i t' ht'; exact ih (hcancel _ _ hs hf ht') h
      · rename_i t' ht'
        obtain ⟨hP, hne⟩ := hpick _ _ hs hf ht'
        exact ih (hemit _ hP hne) h
    · rename_i hf; exact ih (hemit _ hs hf) h

/-! ### Timers -/

/-- The level rule of the ACK timer (R235). -/
theorem ackTimerLevel_eq (now : Time) : s.ackTimerLevel now = { s with ackTimer := s.levelled now } := by
  obtain ⟨⟩ := s
  simp only [State.ackTimerLevel, State.levelled, State.ackTimerStart]
  split <;> simp_all

/-- No start timeout is due. -/
theorem startTimeoutCheck_idle (now : Time) (h : s.startPending = true → elapsed now s.startTime < 2500) :
    s.startTimeoutCheck now = s := by
  unfold State.startTimeoutCheck
  split
  · rename_i hc
    simp only [Bool.and_eq_true, decide_eq_true_eq] at hc
    exact absurd hc.2 (Nat.not_le_of_lt (h hc.1))
  · rfl

/-- No ACK timeout is due. -/
theorem ackTimeoutCheck_idle (now : Time)
    (h : s.connected = true → s.ackTimer.running = true → elapsed now s.ackTimer.start < s.ackPeriod.toNat) :
    s.ackTimeoutCheck now = s := by
  unfold State.ackTimeoutCheck Timer.expired
  split
  · rename_i hc
    simp only [Bool.and_eq_true, decide_eq_true_eq] at hc
    have := h hc.1 hc.2.1
    omega
  · rfl

/-- No not-ready refresh is due. -/
theorem nrTimerCheck_idle (now : Time)
    (h : s.connected = true → s.nrTimer.running = true → elapsed now s.nrTimer.start < s.cfg.nrRefresh) :
    s.nrTimerCheck now = s := by
  unfold State.nrTimerCheck Timer.expired
  split
  · rename_i hc
    simp only [Bool.and_eq_true, decide_eq_true_eq] at hc
    have := h hc.1 hc.2.1
    omega
  · rfl

/-- The tick on a live block with no timer due is the loop and the level rule. -/
theorem sendExec_noTimerDue {now : Time} {space : Space} (hl : s.live) (hn : s.noTimerDue now) :
    s.sendExec now space = s.sendFrames now space := by
  obtain ⟨ha, hf⟩ := hl
  obtain ⟨h1, h2, h3⟩ := hn
  simp [State.sendExec, ha, hf, startTimeoutCheck_idle s now h1, ackTimeoutCheck_idle s now h2,
    nrTimerCheck_idle s now h3]

/-- The tick does nothing on an inactive or fatal block (R200). -/
theorem sendExec_notLive {now : Time} {space : Space} (h : ¬ s.live) : s.sendExec now space = .ok s := by
  unfold State.sendExec
  split
  · rfl
  · rename_i hc
    simp only [Bool.or_eq_true, Bool.not_eq_true', decide_eq_true_eq, not_or, Bool.not_eq_false, not_not] at hc
    exact absurd hc h

end Sys2Proof.Machine
end

