-- ==== Sys2Proof/Tests/Slice0.lean ====
section
/-!
SUPPORT. Named tests: the refusals of `WellFormed`, the decoding of one written-out word per constructor, one or two
single steps per instruction on a small state, and a witness for the hypotheses of every statement that has any. Expected
results are the vectors and programs of 95_test_vectors.md, named at each test, or are worked out by hand from the rules.
-/

namespace Sys2Proof.Tests

open Sys2Proof Sys2Proof.Machine

-- one thread for the many small kernel evaluations below
set_option Elab.async false

/-! ### Helpers -/

/-- The next state of an outcome, if it is one. -/
def nextOf : Host.Outcome State Fault Refusal → Option State
  | .next t => some t
  | .fault _ => none
  | .refused _ => none

/-- The outcome is a next state that passes a check. -/
def goesTo (o : Host.Outcome State Fault Refusal) (p : State → Bool) : Bool := (nextOf o).any p

/-- The outcome is a next state with this response. -/
def answers (o : Host.Outcome State Fault Refusal) (r : Response) : Bool := goesTo o fun t => t.resp == r

theorem exists_of_goesTo {o : Host.Outcome State Fault Refusal} {p : State → Bool} (h : goesTo o p = true) :
    ∃ t, o = .next t ∧ p t = true := by
  cases o with
  | next t => exact ⟨t, rfl, by simpa [goesTo, nextOf] using h⟩
  | fault _ => simp [goesTo, nextOf] at h
  | refused _ => simp [goesTo, nextOf] at h

/-- After START, its RST out in full (P1 step 2). -/
def waiting : State :=
  { State.reset with active := true, startPending := true, rstSent := true }

/-- A session just entered, the initial ACK out (the end of P1). -/
def session : State := { State.reset with active := true, connected := true, rstSent := true }

/-- The session after `SEND [00 00 00 04]` at 200 (P2 step 3): frame 0 is outstanding. -/
def oneOut : State :=
  { session with
    txFreeList := [1, 2, 3], reTxQueue := [0], frmTx := 1, txBuffers := [(0, [0x42, 0x21, 0xA8, 0x50])],
    ackTimer := { running := true, start := 200 } }

/-- The session after one DATA frame with the payload `[00 00 00 04]` was accepted (P3 step 3). -/
def oneIn : State :=
  { session with
    rxFreeList := List.range' 1 15, rxQueue := [0], frmRx := 1, rxBuffers := [(0, [0, 0, 0, 4])] }

/-- `oneOut` in retransmission mode. -/
def resending : State := { oneOut with retransmit := true }

/-- Not ready, the last not-ready frame sent at 100. -/
def refreshDue : State :=
  { session with rxFreeList := [0], rxQueue := List.range' 1 15, notReady := true, nrTimer := { running := true, start := 100 } }

/-- The session with one payload queued and not yet sent. -/
def queued : State :=
  { session with txFreeList := [1, 2, 3], txQueue := [0], txBuffers := [(0, [0x42, 0x21, 0xA8, 0x50])] }

/-- Frame 0 outstanding under a window of one frame. -/
def windowFull : State := { oneOut with cfg := { Config.tc with txK := 1 } }

/-- An ACK in progress, three of its bytes left. -/
def midFrame : State :=
  { session with txFrame := [0x70, 0x78, 0x7E], txKind := .ack, sendState := .sendingShortFrame }

/-- An ACK of the outstanding frame, then a DATA frame. -/
def twoFrames : List Frame := [.ack false false 1, .data 0 false 1 [1, 2, 3]]

/-- A latched fatal error. -/
def fatal : State :=
  { State.reset with active := true, rstSent := true, fatalStatus := .hostFatalError, fatalCode := .timeouts }

/-- RESET_NCP given while START waits (V8.5): the CANCEL and the RST are armed and nothing is out yet. -/
def armed : State :=
  { State.reset with active := true, startPending := true, cancelPending := true, rstPending := true }

/-- `resending` with a second payload waiting behind the frame to resend. -/
def resendingQueued : State :=
  { resending with
    txFreeList := [2, 3], txQueue := [1], txBuffers := [(0, [0x42, 0x21, 0xA8, 0x50]), (1, [0x42, 0x21, 0xA8, 0x50])] }

/-! ### WellFormed: what it refuses -/

theorem test_wf_tc : Config.tc.valid = true := by decide
theorem test_wf_window_zero : { Config.tc with txK := 0 }.valid = false := by decide
theorem test_wf_window_eight : { Config.tc with txK := 8 }.valid = false := by decide
theorem test_wf_min_data_zero : { Config.tc with minDataLen := 0 }.valid = false := by decide
theorem test_wf_min_above_max : { Config.tc with minDataLen := 129 }.valid = false := by decide
theorem test_wf_frame_too_small : { Config.tc with maxFrameLen := 130 }.valid = false := by decide
theorem test_wf_no_tx_buffer : { Config.tc with txPoolSize := 0 }.valid = false := by decide
theorem test_wf_no_rx_buffer : { Config.tc with rxPoolSize := 0 }.valid = false := by decide
theorem test_wf_no_refresh : { Config.tc with nrRefresh := 0 }.valid = false := by decide
theorem test_wf_data_short : (Instr.data 0 0 false 0 [1, 2]).wellFormed Config.tc = false := by decide
theorem test_wf_data_long : (Instr.data 0 0 false 0 (List.replicate 129 0)).wellFormed Config.tc = false := by
  decide +kernel
theorem test_wf_data_ok : (Instr.data 0 0 false 0 [1, 2, 3]).wellFormed Config.tc = true := by decide

/-- The least configuration that R9 admits has no room for a frame with two data bytes. -/
def tiny : Config := { Config.tc with minDataLen := 1, maxDataLen := 1, maxFrameLen := 4 }

theorem test_wf_rstack_no_room : tiny.valid = true ∧ (Instr.rstack 2 11).wellFormed tiny = false := by decide
theorem test_wf_error_no_room : (Instr.error 2 0x51).wellFormed tiny = false := by decide

/-! ### Decode: one written-out word per constructor (R88 for the commands; V1.2 to V1.9 for the frames) -/

theorem test_decode_start : decodeCommand ⟨0x01, 7, 64, [9]⟩ = some (.start 7 64) := by decide
theorem test_decode_stop : decodeCommand ⟨0x02, 7, 64, [9]⟩ = some .stop := by decide
theorem test_decode_resetNcp : decodeCommand ⟨0x03, 7, 64, [9]⟩ = some .resetNcp := by decide
theorem test_decode_send : decodeCommand ⟨0x04, 7, 64, [9]⟩ = some (.send 7 64 [9]) := by decide
theorem test_decode_rxChunk : decodeCommand ⟨0x05, 7, 64, [9]⟩ = some (.rxChunk 7 64 [9]) := by decide
theorem test_decode_tick : decodeCommand ⟨0x06, 7, 64, [9]⟩ = some (.tick 7 64) := by decide
theorem test_decode_rxPop : decodeCommand ⟨0x07, 7, 64, [9]⟩ = some .rxPop := by decide
theorem test_decode_isConnected : decodeCommand ⟨0x08, 7, 64, [9]⟩ = some .isConnected := by decide
theorem test_decode_isIdle : decodeCommand ⟨0x09, 7, 64, [9]⟩ = some .isIdle := by decide
theorem test_decode_countersRead : decodeCommand ⟨0x0A, 7, 64, [9]⟩ = some .countersRead := by decide
theorem test_decode_countersClear : decodeCommand ⟨0x0B, 7, 64, [9]⟩ = some .countersClear := by decide
theorem test_decode_reserved : decodeCommand ⟨0x00, 7, 64, [9]⟩ = none ∧ decodeCommand ⟨0x0C, 7, 64, [9]⟩ = none := by
  decide

/-- V3.16: control byte 0x77, frame 7, ackNum 7, the CRC's low byte escaped. -/
theorem test_decode_data : decodeRaw Config.tc [0x77, 0x42, 0x21, 0xA8, 0x50, 0x97, 0x7D, 0x5E] false =
    .ok (.data 7 false 7 [0x42, 0x21, 0xA8, 0x50]) := by decide +kernel
/-- V3.11: rFlag is bit 3. -/
theorem test_decode_redata : decodeRaw Config.tc [0x08, 0x42, 0x21, 0xA8, 0x50, 0xEF, 0x01] false =
    .ok (.data 0 true 0 [0x42, 0x21, 0xA8, 0x50]) := by decide +kernel
/-- The table of §2.3: ACK 3 not ready, its CRC's low byte escaped. -/
theorem test_decode_ack : decodeRaw Config.tc [0x8B, 0xC1, 0x7D, 0x33] false = .ok (.ack false true 3) := by
  decide +kernel
/-- The table of §2.3: NAK 6 ready. -/
theorem test_decode_nak : decodeRaw Config.tc [0xA6, 0x34, 0xDC] false = .ok (.nak false false 6) := by decide +kernel
/-- V4.3. -/
theorem test_decode_rst : decodeRaw Config.tc [0xC0, 0x38, 0xBC] false = .ok .rst := by decide +kernel
/-- V3.3. -/
theorem test_decode_rstack : decodeRaw Config.tc [0xC1, 0x02, 0x0B, 0x0A, 0x52] false = .ok (.rstack 2 11) := by
  decide +kernel
/-- V3.4. -/
theorem test_decode_error : decodeRaw Config.tc [0xC2, 0x02, 0x51, 0xA8, 0xBD] false = .ok (.error 2 0x51) := by
  decide +kernel
/-- V4.4, V4.5, V4.2. -/
theorem test_decode_rejects :
    decodeRaw Config.tc [0xC0, 0x38, 0xBD] false = .error (.badCrc [0xC0, 0x38, 0xBD]) ∧
    decodeRaw Config.tc [0xC0, 0x18, 0x38, 0xBC] false = .error (.commError [0xC0, 0x38, 0xBC]) ∧
    decodeRaw Config.tc [0xC0, 0x38] false = .error (.tooShort [0xC0, 0x38]) := by decide +kernel
/-- V11.5 and V11.4: an INVALID control byte, a DATA frame with two payload bytes. -/
theorem test_decode_illegal :
    decodeRaw Config.tc [0xC3, 0x01, 0x02, 0xA0, 0x48] false = .error (.illegal 0xC3 [0x01, 0x02]) ∧
    decodeRaw Config.tc [0x00, 0x43, 0x23, 0x80, 0x02] false = .error (.illegal 0x00 [0x43, 0x23]) := by decide +kernel
/-- One word of each format of the opcode table, and two that are none. -/
theorem test_table_words :
    decodeTableWord 8 0x01 = some (.start 0 0) ∧ decodeTableWord 8 0xA5 = some (.nak 0 false false 5) ∧
    decodeTableWord 8 0x12 = some (.data 0 1 false 2 [0, 0, 0]) ∧ decodeTableWord 8 0xC1 = some (.rstack 0 0) ∧
    decodeTableWord 8 0xC3 = none ∧ decodeTableWord 16 0x01 = none := by decide +kernel
/-- The word a table row gives runs as the first instruction after reset. -/
theorem test_fetch_word : answers (step (State.reset.withFetchWord 8 0x01)) ⟨.pending, [], [], .empty⟩ = true := by
  decide +kernel

/-! ### One step per instruction -/

/-- P1 step 2. -/
theorem test_start : answers (exec (.start 0 64) State.reset) ⟨.pending, [0x1A, 0xC0, 0x38, 0xBC, 0x7E], [], .empty⟩ = true := by
  decide +kernel
/-- P7: a budget of 3 leaves two bytes of the RST in progress. -/
theorem test_start_budget : goesTo (exec (.start 0 3) session)
    (fun t => t.resp.out == [0x1A, 0xC0, 0x38] && t.txFrame == [0xBC, 0x7E] && !t.rstSent && !t.connected) = true := by
  decide +kernel
/-- V14.4. -/
theorem test_stop_pending : goesTo (exec .stop { waiting with startTime := 7 })
    (fun t => t.resp == ⟨.success, [], [.startDone .hostFatalError], .empty⟩ && !t.active && t.startTime == 0) = true := by
  decide +kernel
/-- V14.5: STOP frees the outstanding buffer, to the back of the free-list. -/
theorem test_stop_frees : goesTo (exec .stop oneOut)
    (fun t => t.txFreeList == [1, 2, 3, 0] && t.reTxQueue.isEmpty && t.frmTx == 0 && !t.ackTimer.running) = true := by
  decide +kernel
/-- V14.6: the latch is cleared and nothing is emitted. -/
theorem test_resetNcp : goesTo (exec .resetNcp fatal)
    (fun t => t.resp == ⟨.success, [], [], .empty⟩ && t.fatalStatus == .none && t.rstPending && t.cancelPending) = true := by
  decide +kernel
/-- P2 step 3 (V3.10). -/
theorem test_send : answers (exec (.send 200 64 [0, 0, 0, 4]) session)
    ⟨.success, [0x00, 0x42, 0x21, 0xA8, 0x50, 0xED, 0x2C, 0x7E], [], .empty⟩ = true := by decide +kernel
/-- The state after P2 step 3. -/
theorem test_send_state : goesTo (exec (.send 200 64 [0, 0, 0, 4]) session)
    (fun t => t.frmTx == 1 && t.reTxQueue == [0] && t.txQueue.isEmpty && t.ackTimer == ⟨true, 200⟩) = true := by
  decide +kernel
/-- P1 step 4. -/
theorem test_rxChunk_connects : answers (exec (.rxChunk 100 64 [0x1A, 0xC1, 0x02, 0x0B, 0x0A, 0x52, 0x7E]) waiting)
    ⟨.success, [0x80, 0x70, 0x78, 0x7E], [.startDone .success], .empty⟩ = true := by decide +kernel
/-- V11.27: a bad frame and then the good one. -/
theorem test_rxChunk_two : answers (exec (.rxChunk 200 64
      [0x00, 0x42, 0x21, 0xA8, 0x50, 0xED, 0xD3, 0x7E, 0x00, 0x42, 0x21, 0xA8, 0x50, 0xED, 0x2C, 0x7E]) session)
    ⟨.success, [0xA1, 0x44, 0x3B, 0x7E], [.frame], .empty⟩ = true := by decide +kernel
/-- V10.10: nothing at 999. -/
theorem test_tick_before : answers (exec (.tick 999 64) oneOut) ⟨.success, [], [], .empty⟩ = true := by decide +kernel
/-- V10.10 and V9.5: the timeout at 1000. -/
theorem test_tick_timeout : goesTo (exec (.tick 1000 64) oneOut)
    (fun t => t.resp.out == [0x08, 0x42, 0x21, 0xA8, 0x50, 0xEF, 0x01, 0x7E] && t.ackPeriod == 1600 && t.timeouts == 1 &&
      t.ackTimer == ⟨true, 1000⟩) = true := by decide +kernel
/-- P3, R177. -/
theorem test_rxPop : goesTo (exec .rxPop oneIn)
    (fun t => t.resp == ⟨.success, [], [], .bytes [0, 0, 0, 4]⟩ && t.rxFreeList == List.range' 1 15 ++ [0]) = true := by
  decide +kernel
/-- V8.10. -/
theorem test_rxPop_empty : answers (exec .rxPop State.reset) ⟨.noRxData, [], [], .empty⟩ = true := by decide +kernel
/-- R178. -/
theorem test_isConnected : answers (exec .isConnected session) ⟨.success, [], [], .bool true⟩ = true := by decide +kernel
/-- V8.12. -/
theorem test_isIdle : answers (exec .isIdle oneOut) ⟨.success, [], [], .bool false⟩ = true := by decide +kernel
/-- V8.10. -/
theorem test_isIdle_reset : answers (exec .isIdle State.reset) ⟨.success, [], [], .bool true⟩ = true := by decide +kernel
/-- R181: index order. -/
theorem test_countersRead : answers
    (exec .countersRead { session with counters := ⟨1, 2, 3, 4, 5, 6, 7, 8, 9, 10⟩ })
    ⟨.success, [], [], .counters [1, 2, 3, 4, 5, 6, 7, 8, 9, 10]⟩ = true := by decide +kernel
/-- V8.8. -/
theorem test_countersClear : goesTo (exec .countersClear { session with counters := ⟨1, 2, 3, 4, 5, 6, 7, 8, 9, 10⟩ })
    (fun t => t.counters == ⟨0, 0, 0, 0, 0, 0, 0, 0, 0, 0⟩ && t.connected) = true := by decide +kernel
/-- V11.26: the piggy-backed ack and the accepted payload. -/
theorem test_data : goesTo (exec (.data 300 0 false 1 [0x43, 0x23, 0xAB]) oneOut)
    (fun t => t.ackRx == 1 && t.frmRx == 1 && t.ackPeriod == 712 && t.rxBuffers.read 0 == [1, 2, 3] && t.ackPending) = true := by
  decide +kernel
/-- V11.2: out of sequence. -/
theorem test_data_out_of_sequence : goesTo (exec (.data 200 1 false 0 [0x43, 0x23, 0xAB]) session)
    (fun t => t.counters.rxOutOfSequence == 1 && t.nakPending && t.frmRx == 0 && t.rxQueue.isEmpty) = true := by
  decide +kernel
/-- V10.13. -/
theorem test_ack : goesTo (exec (.ack 200 false false 1) oneOut)
    (fun t => t.ackPeriod == 700 && !t.ackTimer.running && t.txFreeList == [1, 2, 3, 0] && t.reTxQueue.isEmpty) = true := by
  decide +kernel
/-- V11.1. -/
theorem test_ack_bad : goesTo (exec (.ack 200 false false 1) session)
    (fun t => t.counters.rxBadAckNum == 1 && t.ackRx == 0 && t.resp == ⟨.success, [], [], .empty⟩) = true := by decide +kernel
/-- V11.22. -/
theorem test_nak : goesTo (exec (.nak 250 false false 0) oneOut)
    (fun t => t.retransmit && t.frmReTx == 0 && t.ackTimer == ⟨true, 200⟩) = true := by decide +kernel
/-- V11.23. -/
theorem test_nak_nothing : goesTo (exec (.nak 250 false false 0) session) (fun t => !t.retransmit) = true := by decide +kernel
/-- V11.20. -/
theorem test_rst : goesTo (exec .rst session) (fun t => t == session) = true := by decide +kernel
/-- V11.19. -/
theorem test_rstack_connected : answers (exec (.rstack 2 0x0B) session)
    ⟨.ncpFatalError, [], [.fatal .ncpFatalError .ncpReset 0x0B], .empty⟩ = true := by decide +kernel
/-- V11.31. -/
theorem test_rstack_version : answers (exec (.rstack 3 0x0B) waiting)
    ⟨.hostFatalError, [], [.fatal .hostFatalError .version 0, .startDone .hostFatalError], .empty⟩ = true := by decide +kernel
/-- V11.30. -/
theorem test_error : goesTo (exec (.error 2 0x51) waiting)
    (fun t => t.resp == ⟨.ncpFatalError, [], [.fatal .ncpFatalError .ncpError 0x51, .startDone .hostFatalError], .empty⟩ &&
      t.fatalStatus == .ncpFatalError && t.fatalCode == .ncpError && t.fatalInfo == 0x51) = true := by decide +kernel

/-! ### Witnesses: the invariant -/

theorem reset_inv : State.reset.Inv := by constructor <;> decide +kernel
theorem session_inv : session.Inv := by constructor <;> decide +kernel
theorem resending_inv : resending.Inv := by constructor <;> decide +kernel
theorem resendingQueued_inv : resendingQueued.Inv := by constructor <;> decide +kernel

/-! ### Witnesses: the hypotheses of each statement, met together -/

/-- A state with one command waiting. -/
def offered (s : State) (op : Byte) : State := s.offer (.command ⟨op, 0, 0, []⟩)

theorem witness_StepRunsDecodedInstruction :
    (offered session 9).cfg.valid = true ∧ (offered session 9).input = [.command ⟨9, 0, 0, []⟩] ∧
    decode (offered session 9).cfg (.command ⟨9, 0, 0, []⟩) = .ok .isIdle := ⟨by decide, rfl, rfl⟩
theorem witness_StepRunsEncodedInstruction :
    session.cfg.valid = true ∧ (Instr.data 5 1 true 2 [1, 2, 3]).wellFormed session.cfg = true := by decide
theorem witness_StepWaitsOrRefuses : State.reset.cfg.valid = true ∧ State.reset.input = [] := by decide
theorem witness_StepWaitsOrRefuses_refuses : ∃ r, step { State.reset with cfg := { Config.tc with txK := 8 } } = .refused r :=
  ⟨.badConfiguration, rfl⟩
theorem witness_ReservedOpcodeAnswersBadCommand_low :
    (offered session 0).cfg.valid = true ∧ (offered session 0).input = [.command ⟨0, 0, 0, []⟩] ∧ (0 : Byte) = 0x00#8 := by
  decide
theorem witness_ReservedOpcodeAnswersBadCommand_high :
    (offered session 0x0C).cfg.valid = true ∧ (offered session 0x0C).input = [.command ⟨0x0C, 0, 0, []⟩] ∧
    0x0C ≤ (0x0C#8).toNat ∧ 0x0C ≤ (0xFF#8).toNat := by decide
theorem witness_DecodeOfEncodeIsIdentity :
    Config.tc.valid = true ∧ (Instr.data 5 1 true 2 (List.replicate 128 0)).wellFormed Config.tc = true ∧
    (Instr.data 5 1 true 2 [1, 2, 3]).wellFormed Config.tc = true ∧ (Instr.rstack 2 11).wellFormed Config.tc = true := by
  decide +kernel
theorem witness_DecodeFrameInvertsEncodeFrame : (List.replicate 128 (0x7E : Byte)).length + 3 ≤ Config.tc.maxFrameLen := by
  decide +kernel
theorem witness_CrcTableAndResidueForms : 3 ≤ [0xC0#8, 0x38#8, 0xBC#8].length := by decide
theorem witness_CrcDetectsOneByteErrors : 3 ≤ [0xC0#8, 0x38#8, 0xBC#8].length ∧ crcOk [0xC0#8, 0x38#8, 0xBC#8] = true ∧
    [0xC0#8, 0x38#8, 0xBC#8][2]? = some 0xBC#8 ∧ (0x01#8) ≠ 0 := by decide +kernel
theorem witness_XonXoffInDecoder_dropped : Config.tc.hwFlowControl = false := by decide
theorem witness_XonXoffInDecoder_error : { Config.tc with hwFlowControl := true }.hwFlowControl = true ∧
    0x11#8 ∈ [0x81#8, 0x11#8, 0x60#8] ∧ 0x1A#8 ∉ [0x81#8, 0x11#8, 0x60#8] := by decide
theorem witness_DeframingIgnoresChunking : 0x1A#8 ∉ [0xC0#8, 0x38#8] ∧ 0x1A#8 ∉ [0xBC#8, 0x7E#8] := by decide
theorem witness_ChunkIsCutAtLastCancel : session.live ∧ 0x1A#8 ∉ [0xC0#8, 0x38#8, 0xBC#8, 0x7E#8] := by decide
theorem witness_BufferReadAfterWrite : Memory.wf [(1, [7]), (3, [8, 9])] ∧ (1 : Nat) ≠ 3 := by decide
theorem witness_StepKeepsInvariant : (offered session 1).Inv ∧ ∃ t, step (offered session 1) = .next t := by
  refine ⟨by constructor <;> decide +kernel, ?_⟩
  obtain ⟨t, ht, _⟩ := exists_of_goesTo (o := step (offered session 1)) (p := fun _ => true) (by decide +kernel)
  exact ⟨t, ht⟩
theorem witness_PowerOnMeetsInvariant : Config.tc.valid = true ∧ tiny.valid = true := by decide
theorem witness_NothingStopsUnderInvariant : resending.Inv := resending_inv
theorem witness_StepKeepsBufferOwnership :
    (offered oneOut 2).owned ∧ ∃ t, step (offered oneOut 2) = .next t := by
  refine ⟨by decide +kernel, ?_⟩
  obtain ⟨t, ht, _⟩ := exists_of_goesTo (o := step (offered oneOut 2)) (p := fun _ => true) (by decide +kernel)
  exact ⟨t, ht⟩
theorem witness_OutputStaysWithinSpace : ∃ t, exec (.start 0 3) State.reset = .next t ∧ t.resp.out.length = 3 := by
  obtain ⟨t, ht, h⟩ := exists_of_goesTo (o := exec (.start 0 3) State.reset) (p := fun t => t.resp.out.length == 3)
    (by decide +kernel)
  exact ⟨t, ht, by simpa using h⟩
theorem witness_OnlyResetsClearFatalLatch_clears : fatal.owned := by decide +kernel
theorem witness_OnlyResetsClearFatalLatch_keeps : fatal.fatalStatus ≠ .none ∧ ∃ t, exec (.tick 5 64) fatal = .next t := by
  refine ⟨by decide, ?_⟩
  obtain ⟨t, ht, _⟩ := exists_of_goesTo (o := exec (.tick 5 64) fatal) (p := fun _ => true) (by decide +kernel)
  exact ⟨t, ht⟩
theorem witness_FatalEventExactlyOnEntry : ∃ t, exec (.error 2 0x51) session = .next t ∧ t.fatalStatus ≠ .none := by
  obtain ⟨t, ht, h⟩ := exists_of_goesTo (o := exec (.error 2 0x51) session) (p := fun t => decide (t.fatalStatus ≠ .none))
    (by decide +kernel)
  exact ⟨t, ht, by simpa using h⟩
theorem witness_SessionsBeginAndEndByRule_begin : waiting.connected = false ∧
    ∃ t, exec (.rxChunk 100 64 [0x1A, 0xC1, 0x02, 0x0B, 0x0A, 0x52, 0x7E]) waiting = .next t ∧ t.connected = true := by
  refine ⟨by decide, ?_⟩
  exact exists_of_goesTo (o := exec (.rxChunk 100 64 [0x1A, 0xC1, 0x02, 0x0B, 0x0A, 0x52, 0x7E]) waiting)
    (p := fun t => t.connected) (by decide +kernel)
theorem witness_SessionsBeginAndEndByRule_end : session.connected = true ∧
    ∃ t, exec (.error 2 0x51) session = .next t ∧ t.connected = false := by
  refine ⟨by decide, ?_⟩
  obtain ⟨t, ht, h⟩ := exists_of_goesTo (o := exec (.error 2 0x51) session) (p := fun t => !t.connected) (by decide +kernel)
  exact ⟨t, ht, by simpa using h⟩
theorem witness_UnobservedRegistersNeverShow :
    session.hideUnobserved = { session with ackTx := 3, peerNotReady := true }.hideUnobserved ∧
    session ≠ { session with ackTx := 3, peerNotReady := true } := by decide +kernel
theorem witness_AcceptedFramesAdvanceFrmRx : session.connected = true ∧
    ∃ t, exec (.data 300 0 false 0 [1, 2, 3]) session = .next t ∧ t.resp.events.count .frame = 1 := by
  refine ⟨by decide, ?_⟩
  obtain ⟨t, ht, h⟩ := exists_of_goesTo (o := exec (.data 300 0 false 0 [1, 2, 3]) session)
    (p := fun t => t.resp.events.count .frame == 1) (by decide +kernel)
  exact ⟨t, ht, by simpa using h⟩
theorem witness_StartArmsAndSendsReset : oneOut.owned := by decide +kernel
theorem witness_StopTearsDown : oneIn.owned := by decide +kernel
theorem witness_ResetNcpArmsAndEmitsNothing : fatal.owned := by decide +kernel
/-- The tick clause, with the CANCEL still pending and with it out (P6 step 6, V14.6). -/
theorem witness_ResetNcpArmsAndEmitsNothing_tick :
    (armed.live ∧ armed.connected = false ∧ armed.noTimerDue 1001 ∧ armed.txFrame = [] ∧ armed.rstPending = true ∧
      1 = (if armed.cancelPending then 1 else 0)) ∧
    ({ armed with cancelPending := false }.live ∧ { armed with cancelPending := false }.noTimerDue 1001 ∧
      0 = (if { armed with cancelPending := false }.cancelPending then 1 else 0)) := by decide +kernel
theorem witness_SendRejectionsChangeNothing :
    fatal.fatalStatus = .hostFatalError ∧ { fatal with fatalStatus := .ncpFatalError }.fatalStatus = .ncpFatalError ∧
    (session.fatalStatus = .none ∧ [1#8, 2#8].length < session.cfg.minDataLen) ∧
    (session.cfg.minDataLen ≤ (List.replicate 129 0#8).length ∧ session.cfg.maxDataLen < (List.replicate 129 0#8).length) ∧
    (waiting.fatalStatus = .none ∧ waiting.cfg.minDataLen ≤ [1#8, 2#8, 3#8].length ∧
      [1#8, 2#8, 3#8].length ≤ waiting.cfg.maxDataLen ∧ waiting.connected = false) ∧
    ({ session with txFreeList := [] }.connected = true ∧ { session with txFreeList := [] }.txFreeList = []) := by
  decide +kernel
theorem witness_SendTransmitsFreshData :
    session.cfg.valid = true ∧ session.live ∧ session.connected = true ∧ session.noTimerDue 200 ∧
    session.cfg.minDataLen ≤ [0#8, 0#8, 0#8, 4#8].length ∧ [0#8, 0#8, 0#8, 4#8].length ≤ session.cfg.maxDataLen ∧
    session.txFreeList = [0, 1, 2, 3] ∧ session.txBuffers.wf ∧ session.txQueue = [] ∧ session.txFrame = [] ∧
    session.cancelPending = false ∧ session.rstPending = false ∧ session.ackPending = false ∧ session.nakPending = false ∧
    session.retransmit = false ∧ dist8 session.ackRx session.frmTx < session.cfg.txK ∧
    [0x00#8, 0x42#8, 0x21#8, 0xA8#8, 0x50#8, 0xED#8, 0x2C#8, 0x7E#8] =
      encodeFrame (dataControl session.frmTx false session.frmRx) (randomize [0, 0, 0, 4]) ∧ 0 < (64#16).toNat := by
  decide +kernel
/-- The queued forms: a frame in progress longer than the budget, an empty budget, and a closed window. -/
theorem witness_SendTransmitsFreshData_queued :
    (midFrame.cfg.valid = true ∧ midFrame.live ∧ midFrame.connected = true ∧ midFrame.noTimerDue 300 ∧
      midFrame.txFreeList = [0, 1, 2, 3] ∧ (2#16).toNat < midFrame.txFrame.length ∧ (0#16).toNat = 0) ∧
    (windowFull.cfg.valid = true ∧ windowFull.live ∧ windowFull.connected = true ∧ windowFull.noTimerDue 300 ∧
      windowFull.txFreeList = [1, 2, 3] ∧ windowFull.txFrame = [] ∧ windowFull.cancelPending = false ∧
      windowFull.rstPending = false ∧ windowFull.ackPending = false ∧ windowFull.nakPending = false ∧
      windowFull.retransmit = false ∧ windowFull.cfg.txK ≤ dist8 windowFull.ackRx windowFull.frmTx) := by
  decide +kernel
theorem witness_SendTransmitsFreshData_tick :
    ∃ t, exec (.tick 200 64) { session with
      txFreeList := [1, 2, 3], txBuffers := session.txBuffers.write 0 (randomize [0, 0, 0, 4]),
      txQueue := session.txQueue ++ [0] } = .next t := by
  obtain ⟨t, ht, _⟩ := exists_of_goesTo (p := fun _ => true) (o := exec (.tick 200 64) { session with
      txFreeList := [1, 2, 3], txBuffers := session.txBuffers.write 0 (randomize [0, 0, 0, 4]),
      txQueue := session.txQueue ++ [0] }) (by decide +kernel)
  exact ⟨t, ht⟩
theorem witness_SendTransmitsFreshData_oldest :
    queued.cfg.valid = true ∧ queued.live ∧ queued.connected = true ∧ queued.noTimerDue 200 ∧ queued.txFrame = [] ∧
    queued.cancelPending = false ∧ queued.rstPending = false ∧ queued.ackPending = false ∧ queued.nakPending = false ∧
    queued.retransmit = false ∧ dist8 queued.ackRx queued.frmTx < queued.cfg.txK ∧ queued.txQueue = 0 :: [] ∧
    [0x00#8, 0x42#8, 0x21#8, 0xA8#8, 0x50#8, 0xED#8, 0x2C#8, 0x7E#8] =
      encodeFrame (dataControl queued.frmTx false queued.frmRx) (queued.txBuffers.read 0) ∧ (8#16).toNat ≤ 8 := by
  decide +kernel
theorem witness_InactiveOrFatalTurnsTrafficAway :
    State.reset.active = false ∧ (fatal.active = true ∧ fatal.fatalStatus = .hostFatalError) ∧
    { fatal with fatalStatus := .ncpFatalError }.fatalStatus = .ncpFatalError := by decide
theorem witness_TickEmitsFrameInProgress :
    { session with txFrame := [0x59#8, 0x7E#8] }.live ∧ { session with txFrame := [0x59#8, 0x7E#8] }.noTimerDue 5 ∧
    { session with txFrame := [0x59#8, 0x7E#8] }.txFrame ≠ [] ∧
    (2#16).toNat ≤ { session with txFrame := [0x59#8, 0x7E#8] }.txFrame.length := by decide +kernel
theorem witness_TickEmitsFrameInProgress_past :
    midFrame.live ∧ midFrame.noTimerDue 300 ∧ midFrame.txFrame ≠ [] ∧
    (64#16).toNat = midFrame.txFrame.length + (61#16).toNat ∧
    goesTo (exec (.tick 300 61) { midFrame with
      txFrame := [], txKind := .none, sendState := .idle, rstSent := midFrame.rstSent || midFrame.txKind == .rst })
      (fun _ => true) = true := by decide +kernel
/-- A budget of 12 from an empty `txFrame`, split as 5 and 7: the reDATA, then four bytes of the fresh DATA frame. -/
theorem witness_TickEmitsFrameInProgress_split :
    resendingQueued.Inv ∧ (12#16).toNat = (5#16).toNat + (7#16).toNat ∧
    ∃ t u, exec (.tick 300 5) resendingQueued = .next t ∧ exec (.tick 300 7) t = .next u := by
  refine ⟨resendingQueued_inv, by decide, ?_⟩
  obtain ⟨t, ht, h⟩ := exists_of_goesTo (o := exec (.tick 300 5) resendingQueued)
    (p := fun t => goesTo (exec (.tick 300 7) t) (fun _ => true)) (by decide +kernel)
  obtain ⟨u, hu, _⟩ := exists_of_goesTo h
  exact ⟨t, u, ht, hu⟩
theorem witness_TickSendsPendingNakOrAck :
    { session with ackPending := true }.live ∧ { session with ackPending := true }.connected = true ∧
    { session with ackPending := true }.startPending = false ∧ { session with ackPending := true }.ackTimer.running = false ∧
    { session with ackPending := true }.txFrame = [] ∧ { session with ackPending := true }.cancelPending = false ∧
    { session with ackPending := true }.rstPending = false ∧ { session with ackPending := true }.ackPending = true ∧
    [0x80#8, 0x70#8, 0x78#8, 0x7E#8] = encodeFrame (ackControl false session.notReady session.frmRx) [] ∧
    (4#16).toNat ≤ [0x80#8, 0x70#8, 0x78#8, 0x7E#8].length := by decide +kernel
/-- The refresh timer expires exactly at its period. -/
theorem witness_TickSendsPendingNakOrAck_refresh :
    refreshDue.live ∧ refreshDue.connected = true ∧ refreshDue.startPending = false ∧ refreshDue.ackTimer.running = false ∧
    refreshDue.txFrame = [] ∧ refreshDue.cancelPending = false ∧ refreshDue.rstPending = false ∧
    refreshDue.nakPending = false ∧ refreshDue.ackPending = false ∧
    true = (refreshDue.nrTimer.running && decide (refreshDue.cfg.nrRefresh ≤ elapsed 580 refreshDue.nrTimer.start)) := by
  decide +kernel
/-- The first frame resent (V3.11), a payload waiting in `txQueue`. -/
theorem witness_TickResendsAllOutstanding_first :
    resendingQueued.live ∧ resendingQueued.connected = true ∧ resendingQueued.noTimerDue 300 ∧
    resendingQueued.txFrame = [] ∧ resendingQueued.cancelPending = false ∧ resendingQueued.rstPending = false ∧
    resendingQueued.ackPending = false ∧ resendingQueued.nakPending = false ∧ resendingQueued.retransmit = true ∧
    resendingQueued.reTxQueue[dist8 resendingQueued.ackRx resendingQueued.frmReTx]? = some 0 ∧
    [0x08#8, 0x42#8, 0x21#8, 0xA8#8, 0x50#8, 0xEF#8, 0x01#8, 0x7E#8] =
      encodeFrame (dataControl resendingQueued.frmReTx true resendingQueued.frmRx) (resendingQueued.txBuffers.read 0) ∧
    (8#16).toNat ≤ 8 := by decide +kernel
/-- All the frames outstanding: with nothing waiting in `txQueue`, and with a payload waiting. -/
theorem witness_TickResendsAllOutstanding :
    (resending.Inv ∧ resending.live ∧ resending.connected = true ∧ resending.noTimerDue 300 ∧ resending.txFrame = [] ∧
      resending.cancelPending = false ∧ resending.rstPending = false ∧ resending.ackPending = false ∧
      resending.nakPending = false ∧ resending.retransmit = true ∧ resending.txQueue = [] ∧
      [0x08#8, 0x42#8, 0x21#8, 0xA8#8, 0x50#8, 0xEF#8, 0x01#8, 0x7E#8] = reDataWires resending.txBuffers.read
        resending.frmRx resending.frmReTx (resending.reTxQueue.drop (dist8 resending.ackRx resending.frmReTx))) ∧
    (resendingQueued.Inv ∧ resendingQueued.txQueue ≠ [] ∧ resendingQueued.nakPending = false ∧
      [0x08#8, 0x42#8, 0x21#8, 0xA8#8, 0x50#8, 0xEF#8, 0x01#8, 0x7E#8] = reDataWires resendingQueued.txBuffers.read
        resendingQueued.frmRx resendingQueued.frmReTx
        (resendingQueued.reTxQueue.drop (dist8 resendingQueued.ackRx resendingQueued.frmReTx))) := by
  refine ⟨⟨resending_inv, ?_⟩, resendingQueued_inv, ?_⟩ <;> decide +kernel
/-- A quiet block; frames outstanding with nothing waiting; a payload waiting behind a closed window. -/
theorem witness_QuiescentTickChangesNothing :
    (session.live ∧ session.noTimerDue 5 ∧ session.quiescent = true ∧ session.retransmit = false) ∧
    (oneOut.live ∧ oneOut.noTimerDue 300 ∧ oneOut.txFrame = [] ∧ oneOut.cancelPending = false ∧
      oneOut.rstPending = false ∧ oneOut.ackPending = false ∧ oneOut.nakPending = false ∧ oneOut.retransmit = false ∧
      oneOut.txQueue = []) ∧
    ({ windowFull with txQueue := [1] }.live ∧ { windowFull with txQueue := [1] }.noTimerDue 300 ∧
      { windowFull with txQueue := [1] }.retransmit = false ∧
      { windowFull with txQueue := [1] }.cfg.txK ≤
        dist8 { windowFull with txQueue := [1] }.ackRx { windowFull with txQueue := [1] }.frmTx) := by decide +kernel
theorem witness_AckTimeoutStartsRetransmission :
    oneOut.live ∧ oneOut.connected = true ∧ oneOut.startPending = false ∧ oneOut.ackTimer.running = true ∧
    oneOut.ackPeriod.toNat ≤ elapsed 1000 oneOut.ackTimer.start ∧ oneOut.timeouts.toNat < 5 ∧
    0 < oneOut.ackPeriod.toNat ∧ oneOut.nrTimer.running = false := by decide +kernel
theorem witness_SixthTimeoutLatchesFatal :
    { oneOut with timeouts := 5 }.live ∧ { oneOut with timeouts := 5 }.connected = true ∧
    { oneOut with timeouts := 5 }.startPending = false ∧ { oneOut with timeouts := 5 }.ackTimer.running = true ∧
    { oneOut with timeouts := 5 }.ackPeriod.toNat ≤ elapsed 1000 { oneOut with timeouts := 5 }.ackTimer.start ∧
    { oneOut with timeouts := 5 }.timeouts.toNat = 5 := by decide +kernel
theorem witness_StartTimeoutLatchesFatal :
    waiting.live ∧ waiting.startPending = true ∧ 2500 ≤ elapsed 2500 waiting.startTime := by decide +kernel
theorem witness_ChunkWithoutFlagIsCarried :
    session.live ∧ session.noTimerDue 5 ∧ 0x7E#8 ∉ [0xC0#8, 0x38#8] ∧ 0x1A#8 ∉ [0xC0#8, 0x38#8] ∧
    session.partialBytes.length ≤ 2 * session.cfg.maxFrameLen := by decide +kernel
theorem witness_RxChunkIsFrameThenTick : oneOut.cfg.valid = true ∧
    (∀ f ∈ twoFrames, (Instr.ofFrame 300 f).wellFormed oneOut.cfg = true) ∧ oneOut.live ∧ oneOut.partialBytes = [] ∧
    oneOut.partialOverflow = false ∧
    ((execFrames 300 twoFrames oneOut).any fun r => r.2 == [.frame] && goesTo (exec (.tick 300 64) r.1) fun _ => true) =
      true := by decide +kernel
/-- A chunk of a DATA frame with a corrupted CRC (scenario 4 of the source) and a lone ESCAPE: one rejected raw frame, one EMPTY. -/
theorem witness_RxChunkIsFrameThenTick_rejected :
    session.cfg.valid = true ∧ session.live ∧
    (∀ raw ∈ [[0x00#8, 0x42#8, 0x21#8, 0xA8#8, 0x50#8, 0xED#8, 0xD3#8], [0x7D#8]], 0x7E#8 ∉ raw ∧ 0x1A#8 ∉ raw) ∧
    session.partialBytes = [] ∧ session.partialOverflow = false ∧
    ((stepRawFrames 300 [([0x00, 0x42, 0x21, 0xA8, 0x50, 0xED, 0xD3], false), ([0x7D], false)] session).any fun r =>
      r.1.counters.rxCrcErrors == 1 && r.1.nakPending && goesTo (exec (.tick 300 64) r.1) fun _ => true) = true := by
  decide +kernel
/-- D60: a DATA frame after an ERROR in one chunk is discarded. -/
theorem witness_RxChunkIsFrameThenTick_fatal :
    ((execFrames 300 (.error 2 0x51 :: twoFrames) oneOut).any fun r =>
      r.2 == [.fatal .ncpFatalError .ncpError 0x51] && r.1.ackRx == 0 &&
      goesTo (exec (.tick 300 64) r.1) fun _ => true) = true := by decide +kernel
theorem witness_RstackChunkConnects :
    5 ≤ waiting.cfg.maxFrameLen ∧ waiting.live ∧ waiting.connected = false ∧ waiting.rstSent = true ∧
    waiting.txFrame = [] ∧ waiting.cancelPending = false ∧ waiting.nrTimer.running = false ∧
    [0x80#8, 0x70#8, 0x78#8, 0x7E#8] = encodeFrame (ackControl false waiting.notReady 0) [] ∧ 0 < (4#16).toNat ∧
    (4#16).toNat ≤ [0x80#8, 0x70#8, 0x78#8, 0x7E#8].length := by decide +kernel
theorem witness_RxPopDeliversOldest : session.rxQueue = [] ∧
    (oneIn.rxQueue = [0] ∧ 0 ∉ oneIn.rxFreeList ∧ 0 ∉ ([] : List Nat)) := by decide +kernel
theorem witness_AckFrameAcknowledges :
    oneOut.live ∧ oneOut.connected = true ∧ (0 = dist8 oneOut.ackRx 0 ∧ 0 ≤ dist8 oneOut.ackRx oneOut.frmTx) ∧
    (1 = dist8 oneOut.ackRx 1 ∧ 1 ≤ dist8 oneOut.ackRx oneOut.frmTx ∧ 1 ≤ oneOut.reTxQueue.length) ∧ oneOut.txOwned := by
  decide +kernel
theorem witness_NakFrameRetransmits :
    oneOut.live ∧ oneOut.connected = true ∧ within oneOut.ackRx 0 oneOut.frmTx = true ∧
    dist8 oneOut.ackRx 0 ≤ oneOut.reTxQueue.length ∧ oneOut.txOwned := by decide +kernel
theorem witness_DataFrameCarriesAck :
    oneOut.live ∧ oneOut.connected = true ∧ within oneOut.ackRx 1 oneOut.frmTx = true ∧
    dist8 oneOut.ackRx 1 ≤ oneOut.reTxQueue.length ∧ oneOut.txOwned ∧
    oneOut.cfg.minDataLen ≤ [1#8, 2#8, 3#8].length ∧ [1#8, 2#8, 3#8].length ≤ oneOut.cfg.maxDataLen := by decide +kernel
theorem witness_DataInSequenceIsAccepted :
    session.live ∧ session.connected = true ∧ session.cfg.minDataLen ≤ [1#8, 2#8, 3#8].length ∧
    (List.replicate 128 0#8).length ≤ session.cfg.maxDataLen ∧ session.rxFreeList = 0 :: List.range' 1 15 ∧
    { session with rxFreeList := [] }.rxFreeList = [] := by decide +kernel
theorem witness_DataNotInSequence :
    session.live ∧ session.connected = true ∧ session.cfg.minDataLen ≤ [1#8, 2#8, 3#8].length ∧
    [1#8, 2#8, 3#8].length ≤ session.cfg.maxDataLen ∧ (1 : Seq) ≠ session.frmRx := by decide +kernel
theorem witness_BadAckNumIsCounted :
    session.live ∧ session.connected = true ∧ dist8 session.ackRx session.frmTx < dist8 session.ackRx 1 ∧
    session.cfg.minDataLen ≤ [1#8, 2#8, 3#8].length ∧ [1#8, 2#8, 3#8].length ≤ session.cfg.maxDataLen := by decide +kernel
theorem witness_FramesIgnored :
    session.live ∧ waiting.live ∧ waiting.connected = false ∧ waiting.cfg.minDataLen ≤ [1#8, 2#8, 3#8].length ∧
    [1#8, 2#8, 3#8].length ≤ waiting.cfg.maxDataLen := by decide +kernel
theorem witness_RstackByConnectionAndVersion :
    (session.live ∧ session.connected = true) ∧ (waiting.live ∧ waiting.connected = false ∧ waiting.rstSent = true) := by
  decide +kernel
theorem witness_ErrorFrameLatchesFatal : session.live ∧ waiting.live := by decide +kernel
theorem witness_RejectedRawFrames :
    (session.offer (.rawFrame [0x00, 0x42] false 5)).cfg.valid = true ∧
    (session.offer (.rawFrame [0x00, 0x42] false 5)).live ∧
    (session.offer (.rawFrame [0x00, 0x42] false 5)).input = [.rawFrame [0x00, 0x42] false 5] ∧
    decode session.cfg (.rawFrame [0x00, 0x42] false 5) = .error (.frame (.tooShort [0x00, 0x42])) := by decide +kernel
/-- The least and greatest legal lengths under TC, and the ones next to them. -/
theorem witness_RejectedRawFrames_legal :
    (legalFrame Config.tc 0x00 3 ∧ legalFrame Config.tc 0x7F 128 ∧ legalFrame Config.tc 0xC0 0 ∧ legalFrame Config.tc 0xC2 2) ∧
    (¬ legalFrame Config.tc 0x00 2 ∧ ¬ legalFrame Config.tc 0x7F 129 ∧ ¬ legalFrame Config.tc 0xC1 1 ∧
      ¬ legalFrame Config.tc 0xC3 0) := by
  refine ⟨⟨?_, ?_, ?_, ?_⟩, ?_, ?_, ?_, ?_⟩ <;> decide
/-- Each clause of the decoder's outcomes has a raw frame: R131's order where several conditions hold. -/
theorem witness_RejectedRawFrames_outcomes :
    decodeFrame { Config.tc with hwFlowControl := true } [0x18, 0x11] true = .xonXoffError [] ∧
    decodeFrame Config.tc [0x18, 0xC0] true = .commError [0xC0] ∧ decodeFrame Config.tc [0xC0] true = .tooLong [0xC0] ∧
    decodeFrame Config.tc [0x11, 0x7D] false = .empty ∧ decodeFrame Config.tc [0xC0, 0x38] false = .tooShort [0xC0, 0x38] ∧
    decodeFrame Config.tc [0xC0, 0x38, 0xBD] false = .badCrc [0xC0, 0x38, 0xBD] ∧
    decodeFrame Config.tc [0xC0, 0x1A] false = .cancelled ∧ decodeFrame Config.tc [0xC0, 0x38, 0xBC] false = .ok 0xC0 [] := by
  decide +kernel

end Sys2Proof.Tests
end

section
/-!
SUPPORT. The operand arithmetic of 00_scope.md (R13, R14), a frame whose ackNum is out of range (46_receive.md R256)
and an expired ACK timer (45_timers.md R233, R236, R237).
-/

namespace Sys2Proof.Machine

section

variable (s : State)

/-! ### Operand arithmetic (R13, R14) -/

/-- Elapsed time as the exact formula of R14. -/
theorem elapsed_eq (now t : Time) : elapsed now t = (now.toNat + 2 ^ 32 - t.toNat) % 2 ^ 32 := by
  unfold elapsed
  bv_omega

@[simp] theorem elapsed_self (now : Time) : elapsed now now = 0 := by simp [elapsed]

/-- Sequence-number distance as the exact formula of R13. -/
theorem dist8_eq (a b : Seq) : dist8 a b = (b.toNat + 8 - a.toNat) % 8 := by
  unfold dist8
  bv_omega

theorem within_iff (lo x hi : Seq) : within lo x hi = true ↔ dist8 lo x ≤ dist8 lo hi := decide_eq_true_iff

/-! ### A live block runs the body of the command or frame -/

/-- Where the body answers and leaves the latch clear, the status is SUCCESS (R175, R176). -/
theorem outcome_whenLive_ok {body : State → Result} {t : State} (hl : s.live) (hb : body s.beginResponse = .ok t)
    (ht : t.fatalStatus = .none) : Result.outcome (s.beginResponse.whenLive body) = .next (t.respond .success) := by
  rw [whenLive_live s body hl, ← beginResponse_eq s, hb]
  simp only [ht, FatalStatus.toStatus, outcome_ok]

/-- A TICK on a live block is determined by what `sendExec` does from the empty response (R176). -/
theorem exec_tick_congr {s t : State} {now : Time} {space : Space} (hs : s.live) (ht : t.live)
    (h : s.beginResponse.sendExec now space = t.beginResponse.sendExec now space) :
    exec (.tick now space) s = exec (.tick now space) t := by
  simp only [exec, execTick, whenLive_live _ _ hs, whenLive_live _ _ ht, ← beginResponse_eq, h]

/-- A DATA payload within the configured bounds makes a frame of legal length (R85). -/
theorem lengthOk_data {cfg : Config} {p : List Byte} (h1 : cfg.minDataLen ≤ p.length) (h2 : p.length ≤ cfg.maxDataLen) :
    lengthOk cfg .data (1 + p.length) = true := by
  simp only [lengthOk, Bool.and_eq_true, decide_eq_true_eq]
  omega

/-- A DATA frame of legal length on a live block is what `recvData` makes of it (R250, R260). -/
theorem exec_data_ok {t : State} {now : Time} {f : Seq} {r : Bool} {a : Seq} {p : List Byte} (hl : s.live)
    (h1 : s.cfg.minDataLen ≤ p.length) (h2 : p.length ≤ s.cfg.maxDataLen)
    (hb : s.beginResponse.recvData now f r a p = .ok t) (ht : t.fatalStatus = .none) :
    exec (.data now f r a p) s = .next (t.respond .success) :=
  outcome_whenLive_ok s hl ((if_pos (lengthOk_data h1 h2)).trans hb) ht

/-! ### A frame whose ackNum is out of range (R256) -/

theorem ackValid_eq_false_iff (a : Seq) : s.ackValid a = false ↔ dist8 s.ackRx s.frmTx < dist8 s.ackRx a := by
  rw [State.ackValid, ← Bool.not_eq_true, within_iff, Nat.not_le]

theorem recvAck_badAckNum (now : Time) (b n : Bool) {a : Seq} (hc : s.connected = true) (ha : s.ackValid a = false) :
    s.recvAck now b n a = .ok s.countBadAckNum := by
  simp [State.recvAck, hc, ha]

theorem recvNak_badAckNum (now : Time) (b n : Bool) {a : Seq} (hc : s.connected = true) (ha : s.ackValid a = false) :
    s.recvNak now b n a = .ok s.countBadAckNum := by
  simp [State.recvNak, hc, ha]

/-- A DATA frame out of range is rejected as well (R255). -/
theorem recvData_badAckNum (now : Time) (f : Seq) (r : Bool) {a : Seq} (p : List Byte) (hc : s.connected = true)
    (ha : s.ackValid a = false) : s.recvData now f r a p = .ok { s with
      counters := { s.counters with rxBadAckNum := s.counters.rxBadAckNum + 1 }
      rejectCond := true
      nakPending := s.nakPending || !s.rejectCond } := by
  simp [State.recvData, hc, ha, State.countBadAckNum, reject_eq]

/-! ### The ACK timeout (R233, R236, R237) -/

/-- The state after one ACK timeout that is not fatal: counted, the period doubled under its cap, retransmission
started from the oldest outstanding frame, the timer restarted. -/
def State.ackTimedOut (now : Time) (s : State) : State :=
  { s with
    timeouts := s.timeouts + 1
    counters := { s.counters with ackTimeouts := s.counters.ackTimeouts + 1 }
    ackPeriod := BitVec.ofNat 12 (min (2 * s.ackPeriod.toNat) 2400)
    retransmit := true
    frmReTx := s.ackRx
    ackTimer := { running := true, start := now } }

/-- An expired ACK timer with fewer than five timeouts before it is one timeout, not fatal (R236). -/
theorem ackTimeoutCheck_due {now : Time} (hc : s.connected = true) (hr : s.ackTimer.running = true)
    (he : s.ackPeriod.toNat ≤ elapsed now s.ackTimer.start) (ht : s.timeouts.toNat < 5) :
    s.ackTimeoutCheck now = s.ackTimedOut now := by
  have hx : (s.connected && s.ackTimer.expired now s.ackPeriod.toNat) = true := by simp [Timer.expired, hc, hr, he]
  have hm : ¬ maxTimeouts ≤ s.countTimeout.timeouts.toNat := by
    show ¬ 6 ≤ (s.timeouts + 1).toNat
    bv_omega
  rw [State.ackTimeoutCheck, if_pos hx, if_neg hm]
  rfl

/-- The doubled period of a period above 0 is above 0: the cap of R233 is below the register's 2^12. -/
theorem ackTimedOut_ackPeriod_pos (now : Time) (hp : 0 < s.ackPeriod.toNat) : 0 < (s.ackTimedOut now).ackPeriod.toNat := by
  simp only [State.ackTimedOut, BitVec.toNat_ofNat]
  omega

/-- Right after a timeout the restarted timer is not due again, unless the period is 0. -/
theorem ackTimeoutCheck_ackTimedOut (now : Time) (hp : 0 < s.ackPeriod.toNat) :
    (s.ackTimedOut now).ackTimeoutCheck now = s.ackTimedOut now :=
  ackTimeoutCheck_idle _ now fun _ _ => (elapsed_self now).trans_lt (ackTimedOut_ackPeriod_pos s now hp)

/-! ### The tick through its timer checks (R200) -/

/-- The tick on a live block with no start timeout due, through an ACK timeout check that is not fatal (R200). -/
theorem sendExec_of_ackTimeoutCheck {s t : State} {now : Time} {space : Space} (hl : s.live)
    (hs : s.startPending = true → elapsed now s.startTime < 2500) (ht : s.ackTimeoutCheck now = t)
    (hf : t.fatalStatus = .none) : s.sendExec now space = (t.nrTimerCheck now).sendFrames now space := by
  obtain ⟨hactive, hfatal⟩ := hl
  simp [State.sendExec, hactive, hfatal, startTimeoutCheck_idle s now hs, ht, hf]

/-- With no budget and the ACK timer running, nothing follows the timer checks (R200, R235). -/
theorem sendFrames_zero_of_running {now : Time} (hr : s.ackTimer.running = true) : s.sendFrames now 0 = .ok s := by
  simp [State.sendFrames, State.sendLoop, State.ackTimerLevel, hr]

end

/-! ### The obligations -/

/-- Settles O56: the range check fails, and what the frame leaves is its count and, for DATA, the reject path. -/
theorem badAckNumIsCounted : Obligations.BadAckNumIsCounted := by
  refine ⟨dist8_eq, within_iff, ?_⟩
  intro s now f r n b a p hl hc hd h1 h2
  have hv : s.beginResponse.ackValid a = false := (ackValid_eq_false_iff s.beginResponse a).2 hd
  refine ⟨?_, ?_, ?_⟩
  · exact outcome_whenLive_ok s hl (recvAck_badAckNum s.beginResponse now b n hc hv) hl.2
  · exact outcome_whenLive_ok s hl (recvNak_badAckNum s.beginResponse now b n hc hv) hl.2
  · exact exec_data_ok s hl h1 h2 (recvData_badAckNum s.beginResponse now f r p hc hv) hl.2

/-- Settles O41: the timer checks turn the state into the one after the timeout, on which they do nothing more. -/
theorem ackTimeoutStartsRetransmission : Obligations.AckTimeoutStartsRetransmission := by
  refine ⟨elapsed_eq, ?_⟩
  intro s t now hl hc hs hr he htimeouts ht
  obtain rfl : t = s.ackTimedOut now := ht
  have hcheck : s.beginResponse.ackTimeoutCheck now = s.beginResponse.ackTimedOut now :=
    ackTimeoutCheck_due _ hc hr he htimeouts
  have htick (space : Space) : s.beginResponse.sendExec now space =
      ((s.beginResponse.ackTimedOut now).nrTimerCheck now).sendFrames now space :=
    sendExec_of_ackTimeoutCheck hl hs hcheck hl.2
  refine ⟨fun hp space => exec_tick_congr hl hl ?_, fun hn => ?_⟩
  · rw [htick]
    have hagain := ackTimeoutCheck_ackTimedOut s.beginResponse now hp
    exact (sendExec_of_ackTimeoutCheck (s := s.beginResponse.ackTimedOut now) hl hs hagain hl.2).symm
  · refine outcome_whenLive_ok s hl (t := s.beginResponse.ackTimedOut now) ?_ hl.2
    have hidle := nrTimerCheck_idle (s.beginResponse.ackTimedOut now) now fun _ => hn
    rw [htick, hidle, sendFrames_zero_of_running _ rfl]

end Sys2Proof.Machine
end

section
/-!
SUPPORT. 10_state.md R40: no operation of the block lets the registers `ackTx` and `peerNotReady` through into what
it answers. One lemma for each operation, in the order of the model's files; each is put together from the lemmas
about the operations it calls.
-/

namespace Sys2Proof.Machine

/-! ### Functions that do not look at what a view hides -/

/-- Seen through `w`, what `g` answers does not depend on what `v` hides of its argument. -/
def Respects {α β : Type} (v : α → α) (w : β → β) (g : α → β) : Prop := ∀ x, w (g (v x)) = w (g x)

section

variable {α β γ ε : Type} {v : α → α} {u : β → β} {w : γ → γ}

/-- Arguments that are the same through `v` give answers that are the same through `u`. -/
theorem Respects.congr {g : α → β} (hg : Respects v u g) {x y : α} (h : v x = v y) : u (g x) = u (g y) :=
  calc u (g x) = u (g (v x)) := (hg x).symm
    _ = u (g (v y)) := by rw [h]
    _ = u (g y) := hg y

theorem Respects.comp {f : α → β} {g : β → γ} (hg : Respects u w g) (hf : Respects v u f) :
    Respects v w (fun x => g (f x)) := fun x => hg.congr (hf x)

theorem Respects.const (c : β) : Respects v u (fun _ => c) := fun _ => rfl

/-- A branch on a condition that does not look at what `v` hides. -/
theorem Respects.ite {c : α → Prop} [DecidablePred c] {f g : α → β} (hc : ∀ x, c (v x) ↔ c x) (hf : Respects v u f)
    (hg : Respects v u g) : Respects v u (fun x => if c x then f x else g x) := by
  intro x
  simp only [hc]
  split
  · exact hf x
  · exact hg x

theorem Respects.ok {f : α → β} (hf : Respects v u f) :
    Respects v (Except.map u) (fun x => (.ok (f x) : Except ε β)) := fun x => congrArg Except.ok (hf x)

/-- Running on from an answer, and stopping where the first operation stops. -/
theorem Respects.bind {f : α → Except ε β} {g : β → Except ε γ} (hf : Respects v (Except.map u) f)
    (hg : Respects u (Except.map w) g) : Respects v (Except.map w) (fun x => (f x).bind g) := by
  refine Respects.comp (u := Except.map u) (g := fun r => r.bind g) (fun r => ?_) hf
  cases r with
  | error e => rfl
  | ok y => exact hg y

theorem Respects.of_eq {f g : α → β} (hg : Respects v u g) (h : ∀ x, f x = g x) : Respects v u f := fun x => by
  rw [h, h, hg]

end

/-! ### The unobserved registers -/

/-- The state with other values in the unobserved registers (R40). -/
def State.setUnobserved (ackTx : Seq) (peerNotReady : Bool) (s : State) : State :=
  { s with ackTx := ackTx, peerNotReady := peerNotReady }

/-- `f` lets nothing of `ackTx` and `peerNotReady` through into the rest of the state (R40). -/
abbrev Blind (f : State → State) : Prop := Respects State.hideUnobserved State.hideUnobserved f

/-- The same for an operation that can stop with a fault: it also stops alike. -/
abbrev BlindResult (f : State → Result) : Prop := Respects State.hideUnobserved (Except.map State.hideUnobserved) f

theorem exists_setUnobserved {s t : State} (h : s.hideUnobserved = t.hideUnobserved) :
    ∃ a p, s = t.setUnobserved a p := by
  refine ⟨s.ackTx, s.peerNotReady, ?_⟩
  calc s = s.hideUnobserved.setUnobserved s.ackTx s.peerNotReady := rfl
    _ = t.setUnobserved s.ackTx s.peerNotReady := by rw [h]; rfl

/-- Run with the two registers blanked, a blind operation stops with the same fault, or answers the same state but for
them. -/
theorem BlindResult.answers {f : State → Result} (hf : BlindResult f) (s : State) :
    (∃ e, f s.hideUnobserved = .error e ∧ f s = .error e) ∨
      ∃ t a p, f s.hideUnobserved = .ok (t.setUnobserved a p) ∧ f s = .ok t := by
  have h := hf s
  cases h₁ : f s.hideUnobserved <;> cases h₂ : f s <;> rw [h₁, h₂] at h <;>
    simp only [Except.map, Except.error.injEq, Except.ok.injEq, reduceCtorEq] at h
  case error.error e e' => exact .inl ⟨e, rfl, h ▸ rfl⟩
  case ok.ok t' t =>
    obtain ⟨a, p, rfl⟩ := exists_setUnobserved h
    exact .inr ⟨t, a, p, rfl, rfl⟩

theorem blind_id : Blind fun s => s := fun _ => rfl

theorem blind_ok : BlindResult .ok := blind_id.ok

/-! ### Flags and named operations -/

theorem blind_reject : Blind State.reject := fun s => by
  simp only [reject_eq]
  rfl

theorem blind_rejIfData (frame : List Byte) : Blind (State.rejIfData frame) := fun s => by
  simp only [rejIfData_eq]
  rfl

theorem blind_nrEval : Blind State.nrEval := fun s => by
  simp only [nrEval_eq]
  rfl

theorem blind_endStart (st : Status) : Blind (State.endStart st) := fun s => by
  simp only [endStart_eq]
  rfl

theorem blind_connect : Blind State.connect := fun s => by
  simp only [connect_eq]
  rfl

theorem blind_raiseFatal (status : FatalStatus) (code : FatalCode) (info : Byte) :
    Blind (State.raiseFatal status code info) := by
  unfold State.raiseFatal
  exact .ite (fun _ => .rfl) ((blind_endStart _).comp fun _ => rfl) blind_id

theorem blind_txFree (h : Nat) : BlindResult (State.txFree h) := by
  unfold State.txFree
  exact .ite (fun _ => .rfl) (.const _) (.ok fun _ => rfl)

theorem blind_rxFree (h : Nat) : BlindResult (State.rxFree h) := by
  unfold State.rxFree
  exact .ite (fun _ => .rfl) (.const _) (.ok fun _ => rfl)

/-- A loop that frees the handles at the front of a queue is blind when the queue and the freeing of one handle are
(R164). -/
theorem blind_freeLoop {loop : Nat → State → Result} {queue : State → List Nat} {pop : Nat → List Nat → State → Result}
    (hqueue : ∀ s, queue s.hideUnobserved = queue s) (hpop : ∀ h q, BlindResult (pop h q)) (hzero : loop 0 = .ok)
    (hnil : ∀ n s, queue s = [] → loop (n + 1) s = .error .popEmptyQueue)
    (hcons : ∀ n s h q, queue s = h :: q → loop (n + 1) s = (pop h q s).bind (loop n)) (n : Nat) :
    BlindResult (loop n) := by
  induction n with
  | zero => exact hzero ▸ blind_ok
  | succ n ih =>
    intro s
    cases hq : queue s with
    | nil => rw [hnil n s hq, hnil n _ ((hqueue s).trans hq)]
    | cons h q =>
      rw [hcons n s h q hq, hcons n _ h q ((hqueue s).trans hq)]
      exact (hpop h q).bind ih s

theorem blind_freeReTx (n : Nat) : BlindResult (State.freeReTx n) := by
  refine blind_freeLoop (queue := State.reTxQueue) (pop := fun h q s => { s with reTxQueue := q }.txFree h)
    (fun _ => rfl) (fun h q => ?_) rfl (fun n s hq => ?_) (fun n s h q hq => ?_) n
  · exact (blind_txFree h).comp fun _ => rfl
  · simp only [State.freeReTx, hq]
  · simp only [State.freeReTx, hq]
    cases State.txFree h _ <;> rfl

theorem blind_freeTx (n : Nat) : BlindResult (State.freeTx n) := by
  refine blind_freeLoop (queue := State.txQueue) (pop := fun h q s => { s with txQueue := q }.txFree h)
    (fun _ => rfl) (fun h q => ?_) rfl (fun n s hq => ?_) (fun n s h q hq => ?_) n
  · exact (blind_txFree h).comp fun _ => rfl
  · simp only [State.freeTx, hq]
  · simp only [State.freeTx, hq]
    cases State.txFree h _ <;> rfl

theorem blind_freeRx (n : Nat) : BlindResult (State.freeRx n) := by
  refine blind_freeLoop (queue := State.rxQueue) (pop := fun h q s => { s with rxQueue := q }.rxFree h)
    (fun _ => rfl) (fun h q => ?_) rfl (fun n s hq => ?_) (fun n s h q hq => ?_) n
  · exact (blind_rxFree h).comp fun _ => rfl
  · simp only [State.freeRx, hq]
  · simp only [State.freeRx, hq]
    cases State.rxFree h _ <;> rfl

theorem blind_drainQueues : BlindResult State.drainQueues := by
  have hre : BlindResult fun s => s.freeReTx s.reTxQueue.length := fun s => blind_freeReTx s.reTxQueue.length s
  have htx : BlindResult fun s => s.freeTx s.txQueue.length := fun s => blind_freeTx s.txQueue.length s
  have hrx : BlindResult fun s => s.freeRx s.rxQueue.length := fun s => blind_freeRx s.rxQueue.length s
  refine ((hre.bind htx).bind hrx).of_eq fun s => ?_
  unfold State.drainQueues
  cases s.freeReTx s.reTxQueue.length with
  | error e => rfl
  | ok s₁ => simp only [Except.bind]; cases s₁.freeTx s₁.txQueue.length <;> rfl

theorem blind_arm : BlindResult State.arm := by
  intro s
  unfold State.arm
  obtain ⟨e, h₁, h₂⟩ | ⟨t, a, p, h₁, h₂⟩ := blind_drainQueues.answers s <;> simp only [h₁, h₂]
  exact blind_nrEval.ok.congr rfl

theorem blind_teardown : BlindResult State.teardown := by
  intro s
  unfold State.teardown
  obtain ⟨e, h₁, h₂⟩ | ⟨t, a, p, h₁, h₂⟩ := blind_drainQueues.answers s <;> simp only [h₁, h₂]
  rfl

/-! ### The receive machine -/

theorem blind_frameRejected (r : FrameReject) : Blind (State.frameRejected r) := by
  cases r with
  | badCrc f => exact (blind_rejIfData f).comp (f := State.countCrcError) fun _ => rfl
  | commError f => exact (blind_rejIfData f).comp (f := State.countCommError) fun _ => rfl
  | tooShort f => exact (blind_rejIfData f).comp (f := State.countTooShort) fun _ => rfl
  | tooLong f => exact (blind_rejIfData f).comp (f := State.countTooLong) fun _ => rfl
  | illegal c d => exact (blind_rejIfData (c :: d)).comp (f := State.countBadFrame) fun _ => rfl
  | xonXoff => exact blind_raiseFatal .hostFatalError .xonXoff 0
  | cancelled => exact blind_id
  | empty => exact blind_id

theorem blind_processAck (a : Seq) (now : Time) : BlindResult (State.processAck a now) := by
  unfold State.processAck
  refine .ite (fun _ => .rfl) blind_ok fun s => ?_
  have hadapt : Blind (State.adaptPeriod now) := fun s => by
    simp only [adaptPeriod_eq]
    rfl
  have hfree : BlindResult fun s => (s.adaptPeriod now).freeReTx (dist8 s.ackRx a) := fun s =>
    ((blind_freeReTx _).comp hadapt) s
  obtain ⟨e, h₁, h₂⟩ | ⟨t, b, p, h₁, h₂⟩ := hfree.answers s <;> simp only [h₁, h₂]
  simp only [advance_restart_eq]
  rfl

theorem blind_acceptData (payload : List Byte) : Blind (State.acceptData payload) := by
  intro s
  cases hf : s.rxFreeList with
  | nil =>
    rw [acceptData_nil s payload hf, acceptData_nil s.hideUnobserved payload hf]
    rfl
  | cons h fl =>
    rw [acceptData_cons s payload hf, acceptData_cons s.hideUnobserved payload hf]
    rfl

theorem blind_outOfSequence : Blind State.outOfSequence := fun s => by
  simp only [outOfSequence_eq]
  rfl

theorem blind_dataFrame (frmNum : Seq) (rFlag : Bool) (payload : List Byte) :
    Blind (State.dataFrame frmNum rFlag payload) := by
  unfold State.dataFrame
  exact .ite (fun _ => .rfl) (blind_acceptData payload) (.ite (fun _ => .rfl) (fun _ => rfl) blind_outOfSequence)

theorem blind_nakFrame : Blind State.nakFrame := by
  unfold State.nakFrame
  exact .ite (fun _ => .rfl) (fun _ => rfl) blind_id

theorem blind_recvData (now : Time) (frmNum : Seq) (rFlag : Bool) (ackNum : Seq) (payload : List Byte) :
    BlindResult (State.recvData now frmNum rFlag ackNum payload) := by
  unfold State.recvData
  have hbad : BlindResult fun s => .ok s.countBadAckNum.reject := .ok (blind_reject.comp fun _ => rfl)
  refine .ite (fun _ => .rfl) blind_ok (.ite (fun _ => .rfl) hbad fun s => ?_)
  obtain ⟨e, h₁, h₂⟩ | ⟨t, b, p, h₁, h₂⟩ := (blind_processAck ackNum now).answers s <;> simp only [h₁, h₂]
  exact (blind_dataFrame frmNum rFlag payload).ok.congr rfl

/-- The register a NAK or an ACK sets before its ack number is processed is hidden. -/
theorem blind_processAck_peerNotReady (nFlag : Bool) (ackNum : Seq) (now : Time) :
    BlindResult fun s => { s with peerNotReady := nFlag }.processAck ackNum now :=
  (blind_processAck ackNum now).comp fun _ => rfl

theorem blind_recvAck (now : Time) (pFlag nFlag : Bool) (ackNum : Seq) :
    BlindResult (State.recvAck now pFlag nFlag ackNum) := by
  unfold State.recvAck
  exact .ite (fun _ => .rfl) blind_ok
    (.ite (fun _ => .rfl) (fun _ => rfl) (blind_processAck_peerNotReady nFlag ackNum now))

theorem blind_recvNak (now : Time) (pFlag nFlag : Bool) (ackNum : Seq) :
    BlindResult (State.recvNak now pFlag nFlag ackNum) := by
  unfold State.recvNak
  refine .ite (fun _ => .rfl) blind_ok (.ite (fun _ => .rfl) (fun _ => rfl) fun s => ?_)
  obtain ⟨e, h₁, h₂⟩ | ⟨t, b, p, h₁, h₂⟩ := (blind_processAck_peerNotReady nFlag ackNum now).answers s <;>
    simp only [h₁, h₂]
  exact blind_nakFrame.ok.congr rfl

theorem blind_recvRstack (version resetReason : Byte) : Blind (State.recvRstack version resetReason) := by
  unfold State.recvRstack
  exact .ite (fun _ => .rfl) (blind_raiseFatal _ _ _)
    (.ite (fun _ => .rfl) (blind_raiseFatal _ _ _) (.ite (fun _ => .rfl) blind_connect blind_id))

theorem blind_recvFrame (now : Time) (f : Frame) : BlindResult (State.recvFrame now f) := by
  cases f with
  | data n r a d => exact blind_recvData now n r a d
  | ack p n a => exact blind_recvAck now p n a
  | nak p n a => exact blind_recvNak now p n a
  | rst => exact blind_ok
  | rstack v r => exact (blind_recvRstack v r).ok
  | error v e => exact (blind_raiseFatal _ _ _).ok

theorem blind_receiveFrame (raw : List Byte) (ovf : Bool) (now : Time) :
    BlindResult (State.receiveFrame raw ovf now) := by
  intro s
  have hcfg : s.hideUnobserved.cfg = s.cfg := rfl
  simp only [State.receiveFrame, hcfg]
  cases decodeRaw s.cfg raw ovf with
  | ok f => exact blind_recvFrame now f s
  | error r => exact (blind_frameRejected r).ok s

theorem blind_receiveAll (now : Time) (frames : List (List Byte × Bool)) :
    BlindResult (State.receiveAll now frames) := by
  induction frames with
  | nil => exact blind_ok
  | cons f frames ih =>
    obtain ⟨raw, ovf⟩ := f
    intro s
    have hstatus : s.hideUnobserved.fatalStatus = s.fatalStatus := rfl
    simp only [State.receiveAll, hstatus]
    split
    · rfl
    · obtain ⟨e, h₁, h₂⟩ | ⟨t, b, p, h₁, h₂⟩ := (blind_receiveFrame raw ovf now).answers s <;> simp only [h₁, h₂]
      exact ih.congr rfl

/-! ### The tick -/

theorem blind_startTimeoutCheck (now : Time) : Blind (State.startTimeoutCheck now) := by
  unfold State.startTimeoutCheck
  exact .ite (fun _ => .rfl) (blind_raiseFatal _ _ _) blind_id

theorem blind_ackTimeoutCheck (now : Time) : Blind (State.ackTimeoutCheck now) := by
  unfold State.ackTimeoutCheck
  have hfatal : Blind fun s => s.countTimeout.raiseFatal .hostFatalError .timeouts 0 :=
    (blind_raiseFatal _ _ _).comp fun _ => rfl
  exact .ite (fun _ => .rfl) (.ite (fun _ => .rfl) hfatal fun _ => rfl) blind_id

theorem blind_nrTimerCheck (now : Time) : Blind (State.nrTimerCheck now) := by
  unfold State.nrTimerCheck
  exact .ite (fun _ => .rfl) (fun _ => rfl) blind_id

theorem blind_ackTimerLevel (now : Time) : Blind (State.ackTimerLevel now) := fun s => by
  simp only [ackTimerLevel_eq]
  rfl

/-- What selection did, with the unobserved registers of the state it did it to blanked. -/
def Selected.hideUnobserved : Selected → Selected
  | .nothing => .nothing
  | .cancel s => .cancel s.hideUnobserved
  | .picked s => .picked s.hideUnobserved

theorem blind_pickAck (now : Time) : Blind (State.pickAck now) := by
  unfold State.pickAck
  exact .ite (fun _ => .rfl) (fun _ => rfl) (fun _ => rfl)

theorem blind_pickReData : BlindResult State.pickReData := by
  intro s
  have hlookup : peekNth s.hideUnobserved.reTxQueue (dist8 s.hideUnobserved.ackRx s.hideUnobserved.frmReTx) =
    peekNth s.reTxQueue (dist8 s.ackRx s.frmReTx) := rfl
  unfold State.pickReData
  rw [hlookup]
  cases peekNth s.reTxQueue (dist8 s.ackRx s.frmReTx) <;> rfl

/-- An operation that picks a frame is blind when the state it leaves is. -/
theorem Respects.picked {f : State → State} (hf : Blind f) :
    Respects State.hideUnobserved (Except.map (ε := Fault) Selected.hideUnobserved) fun s => .ok (.picked (f s)) :=
  fun s => congrArg (fun t => Except.ok (Selected.picked t)) (hf s)

theorem blind_select (now : Time) :
    Respects State.hideUnobserved (Except.map Selected.hideUnobserved) (State.select now) := by
  unfold State.select
  refine .ite (fun _ => .rfl) (fun _ => rfl) (.ite (fun _ => .rfl) (.picked fun _ => rfl)
    (.ite (fun _ => .rfl) (.picked (blind_pickAck now)) (.ite (fun _ => .rfl) (fun s => ?redata)
      (.ite (fun _ => .rfl) (fun s => ?data) (.const _)))))
  case redata =>
    obtain ⟨e, h₁, h₂⟩ | ⟨t, b, p, h₁, h₂⟩ := blind_pickReData.answers s <;> simp only [h₁, h₂]
    rfl
  case data =>
    have hq : s.hideUnobserved.txQueue = s.txQueue := rfl
    simp only [hq]
    cases s.txQueue <;> rfl

theorem blind_emitNext : Blind State.emitNext := by
  intro s
  match hf : s.txFrame with
  | [] => simp only [State.emitNext, hf, show s.hideUnobserved.txFrame = [] from hf]; rfl
  | [b] =>
    rw [emitNext_last s hf, emitNext_last s.hideUnobserved hf]
    rfl
  | b :: c :: rest =>
    rw [emitNext_cons s hf, emitNext_cons s.hideUnobserved hf]
    rfl

/-- What the loop of the tick does after a selection from the state `s`, with `loop` for the rest of its budget
(R200). -/
def Selected.resume (loop : State → Result) (s : State) : Selected → Result
  | .nothing => .ok s
  | .cancel t => loop t
  | .picked t => loop t.emitNext

theorem sendLoop_succ (now : Time) (n : Nat) (s : State) : s.sendLoop now (n + 1) =
    if s.txFrame = [] then (s.select now).bind (Selected.resume (State.sendLoop now n) s)
    else s.emitNext.sendLoop now n := by
  simp only [State.sendLoop]
  split
  · cases s.select now with
    | error e => rfl
    | ok x => cases x <;> rfl
  · rfl

theorem blind_resume {loop : State → Result} (hloop : BlindResult loop) (s : State) :
    Respects Selected.hideUnobserved (Except.map State.hideUnobserved) (Selected.resume loop s) := by
  intro x
  cases x with
  | nothing => rfl
  | cancel t => exact hloop t
  | picked t => exact (hloop.comp blind_emitNext) t

theorem blind_sendLoop (now : Time) (n : Nat) : BlindResult (State.sendLoop now n) := by
  induction n with
  | zero => exact blind_ok
  | succ n ih =>
    have hselect : BlindResult fun s => (s.select now).bind (Selected.resume (State.sendLoop now n) s) := fun s => by
      refine .trans ?_ ((blind_select now).bind (blind_resume ih s) s)
      dsimp only
      cases s.hideUnobserved.select now with
      | error e => rfl
      | ok x => cases x <;> rfl
    have hemit : BlindResult fun s => s.emitNext.sendLoop now n := ih.comp blind_emitNext
    refine .of_eq ?_ (sendLoop_succ now n)
    exact .ite (fun _ => .rfl) hselect hemit

theorem blind_sendFrames (now : Time) (space : Space) : BlindResult (State.sendFrames now space) := by
  intro s
  unfold State.sendFrames
  obtain ⟨e, h₁, h₂⟩ | ⟨t, a, p, h₁, h₂⟩ := (blind_sendLoop now space.toNat).answers s <;> simp only [h₁, h₂]
  exact (blind_ackTimerLevel now).ok.congr rfl

/-- A check of the tick, and what follows it where it has not latched a fatal error (R200). -/
theorem blind_unlessFatal {check : State → State} {next : State → Result} (hcheck : Blind check)
    (hnext : BlindResult next) :
    BlindResult fun s => if (check s).fatalStatus ≠ .none then .ok (check s) else next (check s) :=
  (Respects.ite (v := State.hideUnobserved) (c := fun s : State => s.fatalStatus ≠ .none) (fun _ => .rfl) blind_ok
    hnext).comp hcheck

theorem blind_sendExec (now : Time) (space : Space) : BlindResult (State.sendExec now space) := by
  have hsend : BlindResult fun s => (s.nrTimerCheck now).sendFrames now space :=
    (blind_sendFrames now space).comp (blind_nrTimerCheck now)
  have hack := blind_unlessFatal (blind_ackTimeoutCheck now) hsend
  have hstart := blind_unlessFatal (blind_startTimeoutCheck now) hack
  unfold State.sendExec
  dsimp only
  exact .ite (fun _ => .rfl) blind_ok hstart

/-! ### The instructions -/

/-- From states that differ only in the unobserved registers the outcomes differ only there. -/
def BlindOutcome (f : State → Host.Outcome State Fault Refusal) : Prop :=
  ∀ s s', s.hideUnobserved = s'.hideUnobserved → agreeThrough State.hideUnobserved (f s) (f s')

theorem BlindResult.outcome {f : State → Result} (hf : BlindResult f) : BlindOutcome fun s => (f s).outcome := by
  intro s s' h
  have key := hf.congr h
  cases h₁ : f s <;> cases h₂ : f s' <;> simp_all [Except.map, agreeThrough]

theorem blind_next {f : State → State} (hf : Blind f) : BlindOutcome fun s => .next (f s) :=
  BlindResult.outcome hf.ok

theorem blind_respond (st : Status) : Blind (State.respond st) := fun _ => rfl

theorem blind_whenLive {body : State → Result} (hbody : BlindResult body) :
    BlindResult fun s => s.beginResponse.whenLive body := by
  have hlive : BlindResult (State.whenLive body) := by
    unfold State.whenLive
    refine .ite (fun _ => .rfl) (.ok fun _ => rfl) (.ite (fun _ => .rfl) (.ok fun _ => rfl) fun s => ?_)
    obtain ⟨e, h₁, h₂⟩ | ⟨t, a, p, h₁, h₂⟩ := hbody.answers s <;> simp only [h₁, h₂]
    rfl
  exact hlive.comp fun _ => rfl

/-- A tick with its status answered whatever the tick did (R171, R174). -/
theorem blind_sendExec_respond (now : Time) (space : Space) (st : Status) :
    BlindResult fun s => (s.sendExec now space).bind fun t => .ok (t.respond st) :=
  (blind_sendExec now space).bind (.ok (blind_respond st))

theorem blind_execStart (now : Time) (space : Space) : BlindOutcome (execStart now space) := by
  have harm : BlindResult fun s => s.beginResponse.arm := blind_arm.comp fun _ => rfl
  have htick : BlindResult fun s => ({ s with startPending := true, startTime := now }.sendExec now space).bind
      fun t => .ok (t.respond .pending) := (blind_sendExec_respond now space .pending).comp fun _ => rfl
  refine BlindResult.outcome ((harm.bind htick).of_eq fun s => ?_)
  cases s.beginResponse.arm with
  | error e => rfl
  | ok t => simp only [Except.bind]; cases State.sendExec now space _ <;> rfl

theorem blind_execStop : BlindOutcome execStop := by
  have hend : Blind fun s => s.beginResponse.endStart .hostFatalError := (blind_endStart _).comp fun _ => rfl
  have hdown : BlindResult fun s => (s.beginResponse.endStart .hostFatalError).teardown := blind_teardown.comp hend
  refine BlindResult.outcome fun s => ?_
  obtain ⟨e, h₁, h₂⟩ | ⟨t, a, p, h₁, h₂⟩ := hdown.answers s <;> simp only [h₁, h₂]
  rfl

theorem blind_execResetNcp : BlindOutcome execResetNcp := by
  have harm : BlindResult fun s => s.beginResponse.arm := blind_arm.comp fun _ => rfl
  refine BlindResult.outcome fun s => ?_
  obtain ⟨e, h₁, h₂⟩ | ⟨t, a, p, h₁, h₂⟩ := harm.answers s <;> simp only [h₁, h₂]
  rfl

theorem blind_sendAccepted (now : Time) (space : Space) (payload : List Byte) (h : Nat) :
    BlindResult (State.sendAccepted now space payload h) := by
  have htick : BlindResult fun s => { s with
      txBuffers := s.txBuffers.write h (randomize payload)
      txQueue := s.txQueue ++ [h] }.sendExec now space := (blind_sendExec now space).comp fun _ => rfl
  intro s
  unfold State.sendAccepted
  obtain ⟨e, h₁, h₂⟩ | ⟨t, a, p, h₁, h₂⟩ := htick.answers s <;> simp only [h₁, h₂]
  rfl

theorem blind_execSend (now : Time) (space : Space) (payload : List Byte) :
    BlindOutcome (execSend now space payload) := by
  unfold execSend
  refine BlindResult.outcome ?_
  dsimp only
  refine .ite (fun _ => .rfl) (.ok fun _ => rfl) (.ite (fun _ => .rfl) (.ok fun _ => rfl)
    (.ite (fun _ => .rfl) (.ok fun _ => rfl) (.ite (fun _ => .rfl) (.ok fun _ => rfl) fun s => ?_)))
  have hfree : s.hideUnobserved.beginResponse.txFreeList = s.beginResponse.txFreeList := rfl
  simp only [State.txAllocate, hfree]
  cases s.beginResponse.txFreeList with
  | nil => rfl
  | cons h fl => exact (blind_sendAccepted now space payload h).congr rfl

theorem blind_execRxChunk (now : Time) (space : Space) (chunk : List Byte) :
    BlindOutcome (execRxChunk now space chunk) := by
  refine (blind_whenLive fun s => ?_).outcome
  have hreceive : BlindResult fun s => (s.deframe chunk).2.receiveAll now (s.deframe chunk).1 := fun s =>
    (blind_receiveAll now (s.deframe chunk).1).congr rfl
  obtain ⟨e, h₁, h₂⟩ | ⟨t, a, p, h₁, h₂⟩ := hreceive.answers s <;> simp only [h₁, h₂]
  exact (blind_sendExec now space).congr rfl

theorem blind_execRxPop : BlindOutcome execRxPop := by
  refine BlindResult.outcome fun s => ?_
  have hq : s.hideUnobserved.beginResponse.rxQueue = s.beginResponse.rxQueue := rfl
  simp only [hq]
  cases s.beginResponse.rxQueue with
  | nil => rfl
  | cons h q =>
    have hpop : BlindResult fun s =>
        ({ s.beginResponse with rxQueue := q }.setValue (.bytes (s.beginResponse.rxBuffers.read h))).rxFree h :=
      (blind_rxFree h).comp fun _ => rfl
    obtain ⟨e, h₁, h₂⟩ | ⟨t, a, p, h₁, h₂⟩ := hpop.answers s <;> simp only [h₁, h₂]
    exact (Respects.comp (blind_respond .success) blind_nrEval).ok.congr rfl

theorem blind_execData (now : Time) (frmNum : Seq) (rFlag : Bool) (ackNum : Seq) (payload : List Byte) :
    BlindOutcome (execData now frmNum rFlag ackNum payload) :=
  (blind_whenLive (.ite (fun _ => .rfl) (blind_recvData now frmNum rFlag ackNum payload)
    (blind_frameRejected _).ok)).outcome

theorem blind_exec (i : Instr) : BlindOutcome (exec i) := by
  cases i with
  | start now space => exact blind_execStart now space
  | stop => exact blind_execStop
  | resetNcp => exact blind_execResetNcp
  | send now space payload => exact blind_execSend now space payload
  | rxChunk now space chunk => exact blind_execRxChunk now space chunk
  | tick now space => exact (blind_whenLive (blind_sendExec now space)).outcome
  | rxPop => exact blind_execRxPop
  | isConnected => exact blind_next fun _ => rfl
  | isIdle => exact blind_next fun _ => rfl
  | countersRead => exact blind_next fun _ => rfl
  | countersClear => exact blind_next fun _ => rfl
  | data now n r a d => exact blind_execData now n r a d
  | ack now p n a => exact (blind_whenLive (blind_recvAck now p n a)).outcome
  | nak now p n a => exact (blind_whenLive (blind_recvNak now p n a)).outcome
  | rst => exact (blind_whenLive blind_ok).outcome
  | rstack v r => exact (blind_whenLive (blind_recvRstack v r).ok).outcome
  | error v e => exact (blind_whenLive (blind_raiseFatal .ncpFatalError .ncpError e).ok).outcome

/-- Settles O29: every instruction is put together from operations that are blind to the two registers. -/
theorem unobservedRegistersNeverShow : Obligations.UnobservedRegistersNeverShow :=
  fun s s' i h => blind_exec i s s' h

end Sys2Proof.Machine
end

section
/-!
SUPPORT. 10_state.md R35 and 42_buffers.md R167: no operation of the block creates or loses a buffer handle, and none
changes the configuration. One lemma for each operation that moves handles or calls one that does, in the order of the
model's files.
-/

namespace Sys2Proof.Machine

/-- What no instruction changes: the configuration and, pool by pool, the handles on the free-list and the queues,
counted with multiplicity. -/
def State.holdings (s : State) : Config × Multiset Nat × Multiset Nat :=
  (s.cfg, ↑s.txFreeList + ↑s.txQueue + ↑s.reTxQueue, ↑s.rxFreeList + ↑s.rxQueue)

/-- The operation, where it answers, keeps the configuration and the handles. -/
def KeepsHoldings (f : State → Result) : Prop := ∀ ⦃s t : State⦄, f s = .ok t → t.holdings = s.holdings

section

variable (s : State)

/-- A handle moved from the front of one list to the back of another. -/
theorem coe_front_to_back (h : Nat) (l q : List Nat) :
    ((h :: l : List Nat) : Multiset Nat) + q = (l : Multiset Nat) + ↑(q ++ [h]) := by
  rw [Multiset.coe_add, Multiset.coe_add, Multiset.coe_eq_coe, ← List.append_assoc]
  exact List.perm_append_singleton h (l ++ q) |>.symm

/-! ### Operations that move no handle -/

@[simp] theorem holdings_beginResponse : s.beginResponse.holdings = s.holdings := rfl

@[simp] theorem holdings_respond (st : Status) : (s.respond st).holdings = s.holdings := rfl

@[simp] theorem holdings_setValue (v : Value) : (s.setValue v).holdings = s.holdings := rfl

@[simp] theorem holdings_reject : s.reject.holdings = s.holdings := by rw [reject_eq]; rfl

@[simp] theorem holdings_rejIfData (f : List Byte) : (s.rejIfData f).holdings = s.holdings := by rw [rejIfData_eq]; rfl

@[simp] theorem holdings_nrEval : s.nrEval.holdings = s.holdings := by rw [nrEval_eq]; rfl

@[simp] theorem holdings_endStart (st : Status) : (s.endStart st).holdings = s.holdings := by rw [endStart_eq]; rfl

@[simp] theorem holdings_connect : s.connect.holdings = s.holdings := by rw [connect_eq]; rfl

@[simp] theorem holdings_raiseFatal (status : FatalStatus) (code : FatalCode) (info : Byte) :
    (s.raiseFatal status code info).holdings = s.holdings := by
  by_cases h : s.fatalStatus = .none
  · rw [raiseFatal_clear s status code info h]; rfl
  · rw [raiseFatal_latched s status code info h]

@[simp] theorem holdings_outOfSequence : s.outOfSequence.holdings = s.holdings := by rw [outOfSequence_eq]; rfl

@[simp] theorem holdings_nakFrame : s.nakFrame.holdings = s.holdings := by
  unfold State.nakFrame
  split <;> rfl

@[simp] theorem holdings_frameRejected (r : FrameReject) : (s.frameRejected r).holdings = s.holdings := by
  cases r with
  | badCrc f => exact holdings_rejIfData s.countCrcError f
  | commError f => exact holdings_rejIfData s.countCommError f
  | tooShort f => exact holdings_rejIfData s.countTooShort f
  | tooLong f => exact holdings_rejIfData s.countTooLong f
  | illegal c d => exact holdings_rejIfData s.countBadFrame (c :: d)
  | xonXoff => exact holdings_raiseFatal s .hostFatalError .xonXoff 0
  | cancelled => rfl
  | empty => rfl

@[simp] theorem holdings_recvRstack (version resetReason : Byte) :
    (s.recvRstack version resetReason).holdings = s.holdings := by
  unfold State.recvRstack
  split
  · exact holdings_raiseFatal s _ _ _
  · split
    · exact holdings_raiseFatal s _ _ _
    · split
      · exact holdings_connect s
      · rfl

@[simp] theorem holdings_startTimeoutCheck (now : Time) : (s.startTimeoutCheck now).holdings = s.holdings := by
  unfold State.startTimeoutCheck
  split <;> simp

@[simp] theorem holdings_ackTimeoutCheck (now : Time) : (s.ackTimeoutCheck now).holdings = s.holdings := by
  unfold State.ackTimeoutCheck
  split
  · split
    · exact holdings_raiseFatal s.countTimeout _ _ _
    · rfl
  · rfl

@[simp] theorem holdings_nrTimerCheck (now : Time) : (s.nrTimerCheck now).holdings = s.holdings := by
  unfold State.nrTimerCheck
  split <;> rfl

@[simp] theorem holdings_ackTimerLevel (now : Time) : (s.ackTimerLevel now).holdings = s.holdings := by
  rw [ackTimerLevel_eq]; rfl

@[simp] theorem holdings_pickAck (now : Time) : (s.pickAck now).holdings = s.holdings := by
  unfold State.pickAck
  dsimp only
  split <;> rfl

@[simp] theorem holdings_emitNext : s.emitNext.holdings = s.holdings := by
  unfold State.emitNext
  split <;> rfl

/-! ### Operations that move handles -/

/-- The resets put the queues' handles on the free-lists (R164). -/
theorem holdings_resetColumn : s.resetColumn.holdings = s.holdings := by
  simp only [State.holdings, State.resetColumn, ← Multiset.coe_add, Multiset.coe_nil, add_zero, Prod.mk.injEq, true_and,
    and_true]
  exact add_right_comm _ _ _

theorem holdings_arm : KeepsHoldings State.arm := fun s t h => by
  rw [arm_ok h]
  exact holdings_resetColumn s

theorem holdings_teardown : KeepsHoldings State.teardown := fun s t h => by
  rw [teardown_ok h]
  exact holdings_resetColumn s

/-- Acknowledged frames give their buffers back (R257). -/
theorem holdings_ackColumn (a : Seq) (now : Time) : (s.ackColumn a now).holdings = s.holdings := by
  have hsplit : (s.reTxQueue : Multiset Nat) =
      ↑(s.reTxQueue.take (dist8 s.ackRx a)) + ↑(s.reTxQueue.drop (dist8 s.ackRx a)) := by
    rw [Multiset.coe_add, List.take_append_drop]
  simp only [State.holdings, State.ackColumn, ← Multiset.coe_add, hsplit]
  congr 2
  abel

theorem holdings_processAck (a : Seq) (now : Time) : KeepsHoldings (State.processAck a now) := fun s t h => by
  rcases processAck_ok h with ⟨-, rfl⟩ | ⟨-, -, rfl⟩
  · rfl
  · exact holdings_ackColumn s a now

/-- An accepted payload moves the front of the receive free-list to the back of `rxQueue` (R262). -/
@[simp] theorem holdings_acceptData (payload : List Byte) : (s.acceptData payload).holdings = s.holdings := by
  cases hf : s.rxFreeList with
  | nil => rw [acceptData_nil s payload hf]; rfl
  | cons h fl =>
    rw [acceptData_cons s payload hf]
    simp only [State.holdings, State.flowColumn, hf, coe_front_to_back]

@[simp] theorem holdings_dataFrame (frmNum : Seq) (rFlag : Bool) (payload : List Byte) :
    (s.dataFrame frmNum rFlag payload).holdings = s.holdings := by
  unfold State.dataFrame
  split
  · exact holdings_acceptData s payload
  · split
    · rfl
    · exact holdings_outOfSequence s

/-- A fresh DATA frame moves the front of `txQueue` to the back of `reTxQueue` (R161). -/
theorem holdings_pickData {h : Nat} {rest : List Nat} (hq : s.txQueue = h :: rest) :
    (s.pickData h rest).holdings = s.holdings := by
  simp only [State.holdings, State.pickData, hq, add_assoc, coe_front_to_back]

/-- The oldest received payload's buffer goes back to the free-list (R177). -/
theorem holdings_rxPop {h : Nat} {q : List Nat} (hq : s.rxQueue = h :: q) :
    { s with rxQueue := q, rxFreeList := s.rxFreeList ++ [h] }.holdings = s.holdings := by
  have hback := (coe_front_to_back h q s.rxFreeList).symm
  rw [add_comm] at hback
  simp only [State.holdings, hq, hback, add_comm (s.rxFreeList : Multiset Nat)]

end

/-! ### The receive machine -/

theorem holdings_recvData (now : Time) (frmNum : Seq) (rFlag : Bool) (ackNum : Seq) (payload : List Byte) :
    KeepsHoldings (State.recvData now frmNum rFlag ackNum payload) := by
  intro s t h
  unfold State.recvData at h
  split at h
  · cases h; rfl
  · split at h
    · cases h; exact holdings_reject s.countBadAckNum
    · split at h
      · cases h
      · rename_i s' hs'
        cases h
        rw [holdings_dataFrame, holdings_processAck ackNum now hs']

theorem holdings_recvAck (now : Time) (pFlag nFlag : Bool) (ackNum : Seq) :
    KeepsHoldings (State.recvAck now pFlag nFlag ackNum) := by
  intro s t h
  unfold State.recvAck at h
  split at h
  · cases h; rfl
  · split at h
    · cases h; rfl
    · exact (holdings_processAck ackNum now h).trans rfl

theorem holdings_recvNak (now : Time) (pFlag nFlag : Bool) (ackNum : Seq) :
    KeepsHoldings (State.recvNak now pFlag nFlag ackNum) := by
  intro s t h
  unfold State.recvNak at h
  split at h
  · cases h; rfl
  · split at h
    · cases h; rfl
    · split at h
      · cases h
      · rename_i s' hs'
        cases h
        rw [holdings_nakFrame]
        exact (holdings_processAck ackNum now hs').trans rfl

theorem holdings_recvFrame (now : Time) (f : Frame) : KeepsHoldings (State.recvFrame now f) := by
  intro s t h
  cases f with
  | data n r a d => exact holdings_recvData now n r a d h
  | ack p n a => exact holdings_recvAck now p n a h
  | nak p n a => exact holdings_recvNak now p n a h
  | rst => cases h; rfl
  | rstack v r => cases h; exact holdings_recvRstack s v r
  | error v e => cases h; exact holdings_raiseFatal s _ _ _

theorem holdings_receiveFrame (raw : List Byte) (ovf : Bool) (now : Time) :
    KeepsHoldings (State.receiveFrame raw ovf now) := by
  intro s t h
  unfold State.receiveFrame at h
  split at h
  · exact holdings_recvFrame now _ h
  · cases h; exact holdings_frameRejected s _

theorem holdings_receiveAll (now : Time) (frames : List (List Byte × Bool)) :
    KeepsHoldings (State.receiveAll now frames) := by
  intro s t h
  refine receiveAll_preserves (fun x => x.holdings = s.holdings) (fun raw ovf x y hx _ hy => ?_) rfl h
  exact (holdings_receiveFrame raw ovf now hy).trans hx

/-! ### The tick -/

/-- Whatever is selected, the handles stay, and a picked frame is not empty (R121, R202). -/
theorem holdings_select {now : Time} {s : State} {x : Selected} (h : s.select now = .ok x) :
    x = .nothing ∨ (∃ t, x = .cancel t ∧ t.holdings = s.holdings) ∨
      ∃ t, x = .picked t ∧ t.holdings = s.holdings ∧ t.txFrame ≠ [] := by
  rcases select_cases h with ⟨-, rfl⟩ | ⟨-, -, rfl⟩ | ⟨-, -, -, -, rfl⟩ | ⟨-, -, -, -, -, -, k, t, -, -, rfl, rfl⟩ |
    ⟨-, -, -, -, -, -, -, k, rest, hq, rfl⟩ | ⟨-, -, -, rfl⟩
  case inl => exact .inr (.inl ⟨_, rfl, rfl⟩)
  case inr.inl => exact .inr (.inr ⟨_, rfl, rfl, encodeFrame_ne_nil _ _⟩)
  case inr.inr.inl =>
    refine .inr (.inr ⟨_, rfl, holdings_pickAck s now, ?_⟩)
    unfold State.pickAck
    dsimp only
    split <;> exact encodeFrame_ne_nil _ _
  case inr.inr.inr.inl => exact .inr (.inr ⟨_, rfl, rfl, encodeFrame_ne_nil _ _⟩)
  case inr.inr.inr.inr.inl => exact .inr (.inr ⟨_, rfl, holdings_pickData s hq, encodeFrame_ne_nil _ _⟩)
  case inr.inr.inr.inr.inr => exact .inl rfl

theorem holdings_sendLoop (now : Time) (n : Nat) : KeepsHoldings (State.sendLoop now n) := by
  intro s t h
  refine sendLoop_preserves (fun x => x.holdings = s.holdings) (fun x hx _ => ?emit) (fun x y hx _ hy => ?cancel)
    (fun x y hx _ hy => ?pick) rfl h
  case emit => rw [holdings_emitNext, hx]
  case cancel =>
    obtain hy | ⟨_, hy, hk⟩ | ⟨_, hy, -⟩ := holdings_select hy <;> cases hy
    exact hk.trans hx
  case pick =>
    obtain hy | ⟨_, hy, -⟩ | ⟨_, hy, hk, hne⟩ := holdings_select hy <;> cases hy
    exact ⟨hk.trans hx, hne⟩

theorem holdings_sendFrames (now : Time) (space : Space) : KeepsHoldings (State.sendFrames now space) := by
  intro s t h
  unfold State.sendFrames at h
  split at h
  · cases h
  · rename_i s' hs'
    cases h
    rw [holdings_ackTimerLevel, holdings_sendLoop now _ hs']

theorem holdings_sendExec (now : Time) (space : Space) : KeepsHoldings (State.sendExec now space) := by
  intro s t h
  unfold State.sendExec at h
  dsimp only at h
  split at h
  · cases h; rfl
  · split at h
    · cases h; exact holdings_startTimeoutCheck s now
    · split at h
      · cases h
        rw [holdings_ackTimeoutCheck, holdings_startTimeoutCheck]
      · rw [holdings_sendFrames now space h, holdings_nrTimerCheck, holdings_ackTimeoutCheck,
          holdings_startTimeoutCheck]

/-! ### The instructions -/

/-- The outcome of an instruction, where it is a next state, keeps the configuration and the handles. -/
def KeepsHoldingsNext (f : State → Host.Outcome State Fault Refusal) : Prop :=
  ∀ ⦃s t : State⦄, f s = .next t → t.holdings = s.holdings

theorem KeepsHoldings.next {f : State → Result} (hf : KeepsHoldings f) : KeepsHoldingsNext fun s => (f s).outcome :=
  fun _ t h => hf ((outcome_next_iff _ t).1 h)

theorem holdings_whenLive {body : State → Result} (hbody : KeepsHoldings body) :
    KeepsHoldings fun s => s.beginResponse.whenLive body := by
  intro s t h
  unfold State.whenLive at h
  dsimp only at h
  split at h
  · cases h; rfl
  · split at h
    · cases h; rfl
    · split at h
      · cases h
      · rename_i s' hs'
        cases h
        rw [holdings_respond, hbody hs', holdings_beginResponse]

theorem holdings_execStart (now : Time) (space : Space) : KeepsHoldingsNext (execStart now space) := by
  refine KeepsHoldings.next fun s t h => ?_
  split at h
  · cases h
  · rename_i s₁ h₁
    split at h
    · cases h
    · rename_i s₂ h₂
      cases h
      calc (s₂.respond .pending).holdings = s₂.holdings := holdings_respond s₂ _
        _ = s₁.holdings := (holdings_sendExec now space h₂).trans rfl
        _ = s.holdings := (holdings_arm h₁).trans rfl

theorem holdings_execStop : KeepsHoldingsNext execStop := by
  refine KeepsHoldings.next fun s t h => ?_
  split at h
  · cases h
  · rename_i s₁ h₁
    cases h
    calc ({ s₁ with active := false }.respond .success).holdings = s₁.holdings := rfl
      _ = (s.beginResponse.endStart .hostFatalError).holdings := holdings_teardown h₁
      _ = s.holdings := holdings_endStart _ _

theorem holdings_execResetNcp : KeepsHoldingsNext execResetNcp := by
  refine KeepsHoldings.next fun s t h => ?_
  split at h
  · cases h
  · rename_i s₁ h₁
    cases h
    calc (s₁.respond .success).holdings = s₁.holdings := holdings_respond s₁ _
      _ = s.holdings := (holdings_arm h₁).trans rfl

/-- An accepted payload moves the front of the transmit free-list to the back of `txQueue` before the tick (R174). -/
theorem holdings_sendAccepted {now : Time} {space : Space} {payload : List Byte} {h : Nat} {fl : List Nat} {s t : State}
    (hfl : s.txFreeList = h :: fl) (ht : { s with txFreeList := fl }.sendAccepted now space payload h = .ok t) :
    t.holdings = s.holdings := by
  unfold State.sendAccepted at ht
  split at ht
  · cases ht
  · rename_i s' hs'
    cases ht
    rw [holdings_respond, holdings_sendExec now space hs']
    simp only [State.holdings, hfl, coe_front_to_back]

theorem holdings_execSend (now : Time) (space : Space) (payload : List Byte) :
    KeepsHoldingsNext (execSend now space payload) := by
  refine KeepsHoldings.next fun s t h => ?_
  dsimp only at h
  split at h
  · cases h; rfl
  split at h
  · cases h; rfl
  split at h
  · cases h; rfl
  split at h
  · cases h; rfl
  cases hfl : s.beginResponse.txFreeList with
  | nil =>
    simp only [State.txAllocate, hfl, Except.ok.injEq] at h
    rw [← h]
    rfl
  | cons a fl =>
    simp only [State.txAllocate, hfl] at h
    calc t.holdings = s.beginResponse.holdings := holdings_sendAccepted (s := s.beginResponse) hfl h
      _ = s.holdings := holdings_beginResponse s

theorem holdings_execRxChunk (now : Time) (space : Space) (chunk : List Byte) :
    KeepsHoldingsNext (execRxChunk now space chunk) := by
  refine (holdings_whenLive fun s t h => ?_).next
  split at h
  · cases h
  · rename_i s₁ h₁
    calc t.holdings = s₁.holdings := holdings_sendExec now space h
      _ = (s.deframe chunk).2.holdings := holdings_receiveAll now _ h₁
      _ = s.holdings := rfl

theorem holdings_execRxPop : KeepsHoldingsNext execRxPop := by
  refine KeepsHoldings.next fun s t h => ?_
  dsimp only at h
  split at h
  · cases h; rfl
  · rename_i a q hq
    split at h
    · cases h
    · rename_i s₁ h₁
      obtain ⟨-, -, rfl⟩ := (rxFree_ok_iff _ a s₁).1 h₁
      cases h
      rw [holdings_respond, holdings_nrEval]
      exact holdings_rxPop (s.beginResponse.setValue _) hq

/-- An introspection command changes nothing but the response (R178 to R181). -/
theorem holdings_setValue_respond (v : State → Value) :
    KeepsHoldingsNext fun s => .next ((s.beginResponse.setValue (v s)).respond .success) := by
  intro s t h
  cases h
  rw [holdings_respond, holdings_setValue, holdings_beginResponse]

theorem holdings_execData (now : Time) (frmNum : Seq) (rFlag : Bool) (ackNum : Seq) (payload : List Byte) :
    KeepsHoldingsNext (execData now frmNum rFlag ackNum payload) := by
  refine (holdings_whenLive fun s t h => ?_).next
  split at h
  · exact holdings_recvData now frmNum rFlag ackNum payload h
  · cases h; exact holdings_frameRejected s _

/-- An operation that always answers, with the same handles as before. -/
theorem KeepsHoldings.ok {f : State → State} (hf : ∀ s, (f s).holdings = s.holdings) :
    KeepsHoldings fun s => .ok (f s) :=
  fun s t h => by cases h; exact hf s

theorem holdings_exec (i : Instr) : KeepsHoldingsNext (exec i) := by
  cases i with
  | start now space => exact holdings_execStart now space
  | stop => exact holdings_execStop
  | resetNcp => exact holdings_execResetNcp
  | send now space payload => exact holdings_execSend now space payload
  | rxChunk now space chunk => exact holdings_execRxChunk now space chunk
  | tick now space => exact (holdings_whenLive (holdings_sendExec now space)).next
  | rxPop => exact holdings_execRxPop
  | isConnected => exact holdings_setValue_respond _
  | isIdle => exact holdings_setValue_respond _
  | countersRead => exact holdings_setValue_respond _
  | countersClear => intro s t h; cases h; exact holdings_respond _ _
  | data now n r a d => exact holdings_execData now n r a d
  | ack now p n a => exact (holdings_whenLive (holdings_recvAck now p n a)).next
  | nak now p n a => exact (holdings_whenLive (holdings_recvNak now p n a)).next
  | rst => exact (holdings_whenLive (.ok fun _ => rfl)).next
  | rstack v r => exact (holdings_whenLive (.ok fun s => holdings_recvRstack s v r)).next
  | error v e => exact (holdings_whenLive (.ok fun s => holdings_raiseFatal s _ _ _)).next

theorem holdings_execRejected (e : DecodeError) : KeepsHoldingsNext (execRejected e) := by
  cases e with
  | reservedOpcode op => intro s t h; cases h; rfl
  | frame r => exact (holdings_whenLive (.ok fun s => holdings_frameRejected s r)).next

theorem holdings_fetch {s s' : State} {i : Input} (h : s.fetch = some (i, s')) : s'.holdings = s.holdings := by
  unfold State.fetch at h
  split at h <;> cases h
  rfl

theorem holdings_step : KeepsHoldingsNext step := by
  intro s t h
  unfold step at h
  split at h
  · split at h
    · cases h; rfl
    · rename_i i s' hfetch
      refine .trans ?_ (holdings_fetch hfetch)
      split at h
      · exact holdings_exec _ h
      · exact holdings_execRejected _ h
  · cases h

/-! ### The obligation -/

theorem owned_iff_holdings (s : State) :
    s.owned ↔ s.holdings = (s.cfg, ↑(List.range s.cfg.txPoolSize), ↑(List.range s.cfg.rxPoolSize)) := by
  simp only [State.owned, State.txOwned, State.rxOwned, State.holdings, Prod.mk.injEq, true_and, Multiset.coe_add,
    Multiset.coe_eq_coe]

theorem owned_of_holdings_eq {s t : State} (h : t.holdings = s.holdings) (hs : s.owned) : t.owned := by
  have hcfg : t.cfg = s.cfg := congrArg Prod.fst h
  rw [owned_iff_holdings] at hs ⊢
  rw [h, hs, hcfg]

/-- Settles O24: a step keeps the configuration and each pool's handles (R35), so their number too (R167). -/
theorem stepKeepsBufferOwnership : Obligations.StepKeepsBufferOwnership := by
  refine ⟨fun cfg => ⟨?_, ?_⟩, fun s t hs h => ?_, fun s t h => congrArg Prod.fst (holdings_step h)⟩
  · simp [State.txOwned, State.powerOn]
  · simp [State.rxOwned, State.powerOn]
  · have ht : t.owned := owned_of_holdings_eq (holdings_step h) hs
    obtain ⟨htx, hrx⟩ := ht
    have htx' := htx.length_eq
    have hrx' := hrx.length_eq
    simp only [List.length_append, List.length_range] at htx' hrx'
    exact ⟨⟨htx, hrx⟩, htx', hrx'⟩

end Sys2Proof.Machine
end

section
/-!
SUPPORT. Decoding an encoding gives the instruction back (30_encoding.md, 40_codec.md §5), and a step is `exec` of what
its first waiting input decodes to (20_memory.md R66). In the order of the model's files: the byte codec, the control
bytes, the frames, the commands, the step.
-/

namespace Sys2Proof.Machine

/-! ### The decoder on stuffed bytes (R120, R125 to R130) -/

section

variable (cfg : Config)

/-- The XOR of a reserved byte with the escape mask is not reserved (R120). -/
theorem isReserved_xor_escapeMask {b : Byte} (h : isReserved b = true) : isReserved (b ^^^ escapeMask) = false := by
  revert b
  decide

/-- A byte outside the reserved set is one decoded byte (R125, R129). -/
theorem bytes_cons_of_not_reserved {b : Byte} (h : isReserved b = false) (bs : List Byte) (d : Decoder) :
    Decoder.bytes cfg (b :: bs) d =
      Decoder.bytes cfg bs (d.push cfg (if d.esc then b ^^^ escapeMask else b)) := by
  simp only [isReserved, Bool.or_eq_false_iff, beq_eq_false_iff_ne] at h
  obtain ⟨⟨⟨⟨⟨-, hescape⟩, hcancel⟩, hsubstitute⟩, hxon⟩, hxoff⟩ := h
  simp [Decoder.bytes, Decoder.byte, hescape, hcancel, hsubstitute, hxon, hxoff]

/-- ESCAPE only sets the escape flag (R128). -/
theorem bytes_cons_escape (bs : List Byte) (d : Decoder) :
    Decoder.bytes cfg (escapeByte :: bs) d = Decoder.bytes cfg bs { d with esc := true } := rfl

/-- The stuffed form of a byte, reserved or not, is that one decoded byte. -/
theorem bytes_stuff (b : Byte) (bs : List Byte) {d : Decoder} (hd : d.esc = false) :
    Decoder.bytes cfg (stuff b ++ bs) d = Decoder.bytes cfg bs (d.push cfg b) := by
  cases hb : isReserved b with
  | false =>
    have hstuff : stuff b = [b] := by simp [stuff, hb]
    rw [hstuff, List.singleton_append, bytes_cons_of_not_reserved cfg hb, if_neg (by simp [hd])]
  | true =>
    have hstuff : stuff b = [escapeByte, b ^^^ escapeMask] := by simp [stuff, hb]
    have hunmask : b ^^^ escapeMask ^^^ escapeMask = b := by rw [BitVec.xor_assoc, BitVec.xor_self, BitVec.xor_zero]
    rw [hstuff, List.cons_append, List.singleton_append, bytes_cons_escape,
      bytes_cons_of_not_reserved cfg (isReserved_xor_escapeMask hb), if_pos rfl, hunmask]
    rfl

/-- A stuffed string that fits under `MAX_FRAME_LEN` is collected whole, and no error flag is set (R130). -/
theorem bytes_stuffAll (bs : List Byte) {d : Decoder} (hd : d.esc = false)
    (hlen : d.frame.length + bs.length ≤ cfg.maxFrameLen) :
    Decoder.bytes cfg (stuffAll bs) d = some { d with frame := d.frame ++ bs } := by
  induction bs generalizing d with
  | nil => simp [stuffAll, Decoder.bytes]
  | cons b bs ih =>
    rw [List.length_cons] at hlen
    have hpush : d.push cfg b = { d with frame := d.frame ++ [b] } := by
      rw [Decoder.push, if_pos (by omega), ← hd]
    rw [stuffAll, bytes_stuff cfg b _ hd, hpush, ih (d := { d with frame := d.frame ++ [b] }) hd]
    · simp
    · simp only [List.length_append, List.length_singleton]
      omega

/-! ### The round trip of the byte codec (40_codec.md §5) -/

/-- A decoded frame passes the verification of its own CRC (R86, R114). -/
theorem crcOk_decodedFrame (c : Byte) (data : List Byte) : crcOk (decodedFrame c data) = true := by
  have hlen : (decodedFrame c data).length - 2 = (c :: data).length := by simp [decodedFrame, crcBytes]
  rw [crcOk, hlen, decodedFrame, List.drop_left, List.take_left, beq_self_eq_true]

/-- A frame with no error flag, of a control byte, its data and their CRC, closes as that frame (R131, R132). -/
theorem close_decodedFrame (c : Byte) (data : List Byte) :
    ({ Decoder.start false with frame := decodedFrame c data } : Decoder).close = .ok c data := by
  have hcrc : crcOk (c :: (data ++ crcBytes (crc16 (c :: data)))) = true := crcOk_decodedFrame c data
  have hlen : (crcBytes (crc16 (c :: data))).length = 2 := rfl
  have hlong : ¬ data.length + 2 + 1 < minFrameLen := Nat.not_lt.2 (Nat.le_add_left 3 _)
  simp [Decoder.close, Decoder.start, decodedFrame, hcrc, hlen, hlong]

/-- Decoding the raw frame of a control byte and its data gives them back. -/
theorem decodeFrame_rawFrameOf (c : Byte) {data : List Byte} (hlen : data.length + 3 ≤ cfg.maxFrameLen) :
    decodeFrame cfg (rawFrameOf c data) false = .ok c data := by
  have hfits : (Decoder.start false).frame.length + (decodedFrame c data).length ≤ cfg.maxFrameLen := by
    simp only [Decoder.start, decodedFrame, crcBytes, List.length_nil, List.length_append, List.length_cons]
    omega
  rw [decodeFrame, rawFrameOf, bytes_stuffAll cfg _ rfl hfits]
  exact close_decodedFrame c data

end

/-! ### The fields of an assembled control byte (R81 to R83) -/

theorem dataControl_fields (f : Seq) (r : Bool) (a : Seq) :
    frameType (dataControl f r a) = .data ∧ frmNumOf (dataControl f r a) = f ∧ bit3Of (dataControl f r a) = r ∧
      ackNumOf (dataControl f r a) = a := by
  revert f r a
  decide

theorem ackControl_fields (p n : Bool) (a : Seq) :
    frameType (ackControl p n a) = .ack ∧ bit4Of (ackControl p n a) = p ∧ bit3Of (ackControl p n a) = n ∧
      ackNumOf (ackControl p n a) = a := by
  revert p n a
  decide

theorem nakControl_fields (p n : Bool) (a : Seq) :
    frameType (nakControl p n a) = .nak ∧ bit4Of (nakControl p n a) = p ∧ bit3Of (nakControl p n a) = n ∧
      ackNumOf (nakControl p n a) = a := by
  revert p n a
  decide

/-! ### Frames -/

section

variable {cfg : Config} {now : Time}

/-- `MAX_FRAME_LEN` holds the longest DATA frame (R9). -/
theorem maxDataLen_add_three_le (hv : cfg.valid = true) : cfg.maxDataLen + 3 ≤ cfg.maxFrameLen := by
  simp only [Config.valid, Bool.and_eq_true, decide_eq_true_eq] at hv
  omega

theorem wellFormed_data {f : Seq} {r : Bool} {a : Seq} {p : List Byte} :
    (Instr.data now f r a p).wellFormed cfg = true ↔ cfg.minDataLen ≤ p.length ∧ p.length ≤ cfg.maxDataLen := by
  simp [Instr.wellFormed]

/-- A well-formed frame, with its control byte and its CRC, fits in `MAX_FRAME_LEN` (R9, R130). -/
theorem dataBytes_length_le {f : Frame} (hv : cfg.valid = true) (hw : (Instr.ofFrame now f).wellFormed cfg = true) :
    f.dataBytes.length + 3 ≤ cfg.maxFrameLen := by
  have hmax := maxDataLen_add_three_le hv
  cases f with
  | data f r a p =>
    obtain ⟨-, hp⟩ := wellFormed_data.1 hw
    exact (Nat.add_le_add_right hp 3).trans hmax
  | ack p n a => exact (Nat.le_add_left 3 _).trans hmax
  | nak p n a => exact (Nat.le_add_left 3 _).trans hmax
  | rst => exact (Nat.le_add_left 3 _).trans hmax
  | rstack v r => exact of_decide_eq_true hw
  | error v e => exact of_decide_eq_true hw

/-- The control byte and the data bytes of a well-formed frame say that frame (R80 to R85). -/
theorem frameOf_control {f : Frame} (hw : (Instr.ofFrame now f).wellFormed cfg = true) :
    frameOf cfg f.control f.dataBytes = some f := by
  cases f with
  | data f r a p =>
    obtain ⟨hmin, hmax⟩ := wellFormed_data.1 hw
    obtain ⟨htype, hfrm, hr, ha⟩ := dataControl_fields f r a
    simp [frameOf, Frame.control, Frame.dataBytes, htype, lengthOk_data hmin hmax, hfrm, hr, ha]
  | ack p n a =>
    obtain ⟨htype, hp, hn, ha⟩ := ackControl_fields p n a
    simp [frameOf, Frame.control, Frame.dataBytes, htype, lengthOk, hp, hn, ha]
  | nak p n a =>
    obtain ⟨htype, hp, hn, ha⟩ := nakControl_fields p n a
    simp [frameOf, Frame.control, Frame.dataBytes, htype, lengthOk, hp, hn, ha]
  | rst => rfl
  | rstack v r =>
    have htype : frameType rstackControl = .rstack := by decide
    simp [frameOf, Frame.control, Frame.dataBytes, htype, lengthOk]
  | error v e =>
    have htype : frameType errorControl = .error := by decide
    simp [frameOf, Frame.control, Frame.dataBytes, htype, lengthOk]

/-- The raw frame of a well-formed frame decodes to it, with the time it is delivered at. -/
theorem decode_toInput {f : Frame} (hv : cfg.valid = true) (hw : (Instr.ofFrame now f).wellFormed cfg = true) :
    decode cfg (f.toInput now) = .ok (Instr.ofFrame now f) := by
  have hraw : decodeRaw cfg (rawFrameOf f.control f.dataBytes) false = .ok f := by
    simp only [decodeRaw, decodeFrame_rawFrameOf cfg f.control (dataBytes_length_le hv hw), frameOf_control hw]
  simp only [Frame.toInput, decode, hraw]

/-! ### Instructions -/

/-- A well-formed instruction is what its encoding decodes to: a command by its opcode (R88), a frame by the round trip
of the codec. -/
theorem decode_encode {i : Instr} (hv : cfg.valid = true) (hw : i.wellFormed cfg = true) :
    decode cfg (encode i) = .ok i := by
  cases i with
  | start now space => rfl
  | stop => rfl
  | resetNcp => rfl
  | send now space payload => rfl
  | rxChunk now space chunk => rfl
  | tick now space => rfl
  | rxPop => rfl
  | isConnected => rfl
  | isIdle => rfl
  | countersRead => rfl
  | countersClear => rfl
  | data now f r a p => exact decode_toInput (f := .data f r a p) hv hw
  | ack now p n a => exact decode_toInput (f := .ack p n a) hv hw
  | nak now p n a => exact decode_toInput (f := .nak p n a) hv hw
  | rst => exact decode_toInput (now := 0) (f := .rst) hv hw
  | rstack v r => exact decode_toInput (now := 0) (f := .rstack v r) hv hw
  | error v e => exact decode_toInput (now := 0) (f := .error v e) hv hw

end

/-! ### The step (R66) -/

theorem fetch_of_input {s : State} {i : Input} {rest : List Input} (h : s.input = i :: rest) :
    s.fetch = some (i, { s with input := rest }) := by
  rw [State.fetch, h]

/-- An input offered is the next one taken, and taking it leaves the state it was offered to. -/
theorem fetch_offer (s : State) (i : Input) : (s.offer i).fetch = some (i, s) := rfl

/-- A step whose input decodes is `exec` of the instruction on the state with the input taken. -/
theorem step_of_fetch {s t : State} {i : Input} {instr : Instr} (hv : s.cfg.valid = true)
    (hf : s.fetch = some (i, t)) (hd : decode s.cfg i = .ok instr) : step s = exec instr t := by
  simp only [step, if_pos hv, hf, hd]

/-! ### The obligations -/

/-- Settles O1: the input taken is the head of the list, and `step` does nothing but decode and run it. -/
theorem stepRunsDecodedInstruction : Obligations.StepRunsDecodedInstruction :=
  fun _ _ _ _ hv hinput hd => step_of_fetch hv (fetch_of_input hinput) hd

/-- Settles O2: the encoding offered is the input taken, and it decodes to the instruction it encodes. -/
theorem stepRunsEncodedInstruction : Obligations.StepRunsEncodedInstruction :=
  fun s instr hv hw => step_of_fetch hv (fetch_offer s (encode instr)) (decode_encode hv hw)

end Sys2Proof.Machine
end

section
/-!
SUPPORT. What the encoder writes (30_encoding.md §1 and §4, 40_codec.md §3) and what a command outside the table of R88
does: the stuffed bytes and the length of a wire frame, the fields of a control byte, the reserved opcodes.
-/

namespace Sys2Proof.Machine

/-! ### Stuffed bytes and the length of a wire frame (R86, R120, R121) -/

theorem not_isReserved_iff (b : Byte) : isReserved b = false ↔
    b ≠ 0x7E#8 ∧ b ≠ 0x7D#8 ∧ b ≠ 0x1A#8 ∧ b ≠ 0x18#8 ∧ b ≠ 0x11#8 ∧ b ≠ 0x13#8 := by
  simp [isReserved, flagByte, escapeByte, cancelByte, substituteByte, xonByte, xoffByte, and_assoc]

/-- Stuffing writes no reserved byte but ESCAPE (R120). -/
theorem eq_escape_or_not_isReserved_of_mem_stuff {b x : Byte} (h : x ∈ stuff b) :
    x = escapeByte ∨ isReserved x = false := by
  cases hb : isReserved b with
  | false =>
    obtain rfl : x = b := by simpa [stuff, hb] using h
    exact .inr hb
  | true =>
    obtain rfl | rfl : x = escapeByte ∨ x = b ^^^ escapeMask := by simpa [stuff, hb] using h
    · exact .inl rfl
    · exact .inr (isReserved_xor_escapeMask hb)

theorem length_stuff (b : Byte) : (stuff b).length = if isReserved b = true then 2 else 1 := by
  rw [stuff, apply_ite List.length]
  rfl

theorem eq_escape_or_not_isReserved_of_mem_stuffAll {bs : List Byte} {x : Byte} (h : x ∈ stuffAll bs) :
    x = escapeByte ∨ isReserved x = false := by
  induction bs with
  | nil => cases h
  | cons b bs ih =>
    rw [stuffAll, List.mem_append] at h
    exact h.elim eq_escape_or_not_isReserved_of_mem_stuff ih

/-- Each byte is stuffed to one or two. -/
theorem length_stuffAll_bounds (bs : List Byte) :
    bs.length ≤ (stuffAll bs).length ∧ (stuffAll bs).length ≤ 2 * bs.length := by
  induction bs with
  | nil => exact ⟨le_rfl, le_rfl⟩
  | cons b bs ih =>
    rw [stuffAll, List.length_append, List.length_cons, length_stuff]
    split <;> omega

theorem length_decodedFrame (c : Byte) (d : List Byte) : (decodedFrame c d).length = d.length + 3 := by
  simp [decodedFrame, crcBytes]

theorem length_rawFrameOf_bounds (c : Byte) (d : List Byte) :
    d.length + 3 ≤ (rawFrameOf c d).length ∧ (rawFrameOf c d).length ≤ 2 * (d.length + 3) := by
  rw [rawFrameOf, ← length_decodedFrame c d]
  exact length_stuffAll_bounds (decodedFrame c d)

/-- A byte of a raw frame is none of the reserved bytes other than ESCAPE. -/
theorem ne_reserved_of_mem_rawFrameOf {c : Byte} {d : List Byte} {b : Byte} (h : b ∈ rawFrameOf c d) :
    b ≠ 0x7E#8 ∧ b ≠ 0x1A#8 ∧ b ≠ 0x18#8 ∧ b ≠ 0x11#8 ∧ b ≠ 0x13#8 := by
  obtain rfl | hb := eq_escape_or_not_isReserved_of_mem_stuffAll h
  · decide
  · obtain ⟨hflag, -, hothers⟩ := (not_isReserved_iff b).1 hb
    exact ⟨hflag, hothers⟩

/-! ### Fields of a control byte (R81 to R83) -/

theorem frmNumOf_toNat (c : Byte) : (frmNumOf c).toNat = c.toNat / 16 % 8 := by
  rw [frmNumOf, BitVec.extractLsb'_toNat, Nat.shiftRight_eq_div_pow]

theorem ackNumOf_toNat (c : Byte) : (ackNumOf c).toNat = c.toNat % 8 := by
  rw [ackNumOf, BitVec.extractLsb'_toNat, Nat.shiftRight_zero]

theorem bit3Of_iff (c : Byte) : bit3Of c = true ↔ c.toNat / 8 % 2 = 1 := by
  rw [bit3Of, BitVec.getLsbD, Nat.testBit_eq_decide_div_mod_eq, decide_eq_true_iff]

theorem bit4Of_iff (c : Byte) : bit4Of c = true ↔ c.toNat / 16 % 2 = 1 := by
  rw [bit4Of, BitVec.getLsbD, Nat.testBit_eq_decide_div_mod_eq, decide_eq_true_iff]

/-- The fields of a DATA control byte are disjoint, so assembling them is a sum (R81). -/
theorem dataControl_eq_sum (f : Seq) (r : Bool) (a : Seq) :
    dataControl f r a = BitVec.ofNat 8 (f.toNat * 16 + (if r then 8 else 0) + a.toNat) := by
  revert f r a
  decide

/-- The fields of an ACK control byte are disjoint, so assembling them is a sum (R82). -/
theorem ackControl_eq_sum (p n : Bool) (a : Seq) :
    ackControl p n a = BitVec.ofNat 8 (0x80 + (if p then 16 else 0) + (if n then 8 else 0) + a.toNat) := by
  revert p n a
  decide

/-- The fields of a NAK control byte are disjoint, so assembling them is a sum (R83). -/
theorem nakControl_eq_sum (p n : Bool) (a : Seq) :
    nakControl p n a = BitVec.ofNat 8 (0xA0 + (if p then 16 else 0) + (if n then 8 else 0) + a.toNat) := by
  revert p n a
  decide

/-! ### Reserved opcodes (R93) -/

/-- The opcodes R88 leaves out decode to no command. -/
theorem decodeCommand_eq_none {c : CommandRecord} (h : c.op = 0x00#8 ∨ 0x0C ≤ c.op.toNat) : decodeCommand c = none := by
  have hne (k : Byte) (hk : 0 < k.toNat ∧ k.toNat < 0x0C) : c.op ≠ k := by
    rintro rfl
    obtain h | h := h
    · exact absurd (congrArg BitVec.toNat h) hk.1.ne'
    · exact absurd h hk.2.not_ge
  simp [decodeCommand, hne]

/-- A step whose input the decoder rejects has the effect the spec gives the rejection. -/
theorem step_of_fetch_rejected {s t : State} {i : Input} {e : DecodeError} (hv : s.cfg.valid = true)
    (hf : s.fetch = some (i, t)) (hd : decode s.cfg i = .error e) : step s = execRejected e t := by
  simp only [step, if_pos hv, hf, hd]

/-! ### The obligations -/

/-- Settles O16: the stuffed decoded frame is as long as its bytes to twice that and holds no FLAG; one FLAG ends it. -/
theorem wireFrameShape : Obligations.WireFrameShape := by
  intro c d
  obtain ⟨hlow, hhigh⟩ := length_rawFrameOf_bounds c d
  have hlen : (encodeFrame c d).length = (rawFrameOf c d).length + 1 := List.length_append
  have hdrop : (encodeFrame c d).dropLast = rawFrameOf c d := List.dropLast_concat
  rw [hlen, hdrop]
  exact ⟨Nat.succ_le_succ hlow, Nat.succ_le_succ hhigh, List.getLast?_concat, fun b => ne_reserved_of_mem_rawFrameOf⟩

/-- Settles O4: the opcode decodes to no command, and the rejection only answers. -/
theorem reservedOpcodeAnswersBadCommand : Obligations.ReservedOpcodeAnswersBadCommand := by
  intro s c rest hv hinput hop
  have hd : decode s.cfg (.command c) = .error (.reservedOpcode c.op) := by
    simp only [decode, decodeCommand_eq_none hop]
  exact step_of_fetch_rejected hv (fetch_of_input hinput) hd

/-- Settles O8: the extractions by arithmetic on the byte, the assembled bytes by the fields being disjoint. -/
theorem controlByteFields : Obligations.ControlByteFields := by
  refine ⟨fun c => ⟨frmNumOf_toNat c, bit3Of_iff c, bit4Of_iff c, ackNumOf_toNat c⟩, fun f a r => ?_, fun a p n => ?_⟩
  · obtain ⟨-, hfields⟩ := dataControl_fields f r a
    exact ⟨dataControl_eq_sum f r a, hfields⟩
  · obtain ⟨-, hackP, hackN, hackA⟩ := ackControl_fields p n a
    obtain ⟨-, hnak⟩ := nakControl_fields p n a
    exact ⟨ackControl_eq_sum p n a, nakControl_eq_sum p n a, hackP, hackN, hackA, hnak⟩

end Sys2Proof.Machine
end

section
/-!
SUPPORT. The byte codec (40_codec.md) as the statements speak of it: stuffing (R120), the randomizer (R117), the CRC as
a linear map with trivial kernel (R110 to R115, R134), what the decoder has collected after any bytes (R124 to R132), the
legal control bytes and lengths (R80, R85), and the effect of a rejected raw frame (R251, R253).
-/

namespace Sys2Proof.Machine

/-! ### Stuffing (R119, R120) -/

theorem isReserved_iff (b : Byte) : isReserved b = true ↔
    b = 0x7E#8 ∨ b = 0x7D#8 ∨ b = 0x1A#8 ∨ b = 0x18#8 ∨ b = 0x11#8 ∨ b = 0x13#8 := by
  simp [isReserved, flagByte, escapeByte, cancelByte, substituteByte, xonByte, xoffByte, or_assoc]

theorem stuff_of_not_reserved {b : Byte} (h : isReserved b = false) : stuff b = [b] := by
  rw [stuff, if_neg (by simp [h])]

theorem stuff_of_reserved {b : Byte} (h : isReserved b = true) : stuff b = [0x7D#8, b ^^^ 0x20#8] := if_pos h

/-- A reserved byte among the stuffed ones is the ESCAPE in front of a reserved byte. -/
theorem reserved_of_mem_stuff {b x : Byte} (hx : x ∈ stuff b) (hr : isReserved x = true) :
    x = 0x7D#8 ∧ stuff b = [x, b ^^^ 0x20#8] := by
  cases hb : isReserved b with
  | false =>
    obtain rfl : x = b := by simpa [stuff_of_not_reserved hb] using hx
    rw [hr] at hb
    cases hb
  | true =>
    rw [stuff_of_reserved hb] at hx ⊢
    obtain rfl | rfl : x = 0x7D#8 ∨ x = b ^^^ 0x20#8 := by simpa using hx
    · exact ⟨rfl, rfl⟩
    · rw [show b ^^^ 0x20#8 = b ^^^ escapeMask from rfl, isReserved_xor_escapeMask hb] at hr
      cases hr

/-! ### The randomizer (R116, R117) -/

theorem lfsrNext_eq (r : Byte) : lfsrNext r = if r.toNat % 2 = 1 then (r >>> 1) ^^^ 0xB8#8 else r >>> 1 := by
  have hbit : r.getLsbD 0 = true ↔ r.toNat % 2 = 1 := by
    rw [BitVec.getLsbD, Nat.testBit_zero, decide_eq_true_iff]
  simp only [lfsrNext, hbit, lfsrPoly]

theorem length_randomizeFrom (r : Byte) (d : List Byte) : (randomizeFrom r d).length = d.length := by
  induction d generalizing r with
  | nil => rfl
  | cons b bs ih => simp only [randomizeFrom, List.length_cons, ih]

/-- Randomizing from the register after `k` steps meets byte `i` with the register after `k + i` steps. -/
theorem getElem?_randomizeFrom (k : Nat) (d : List Byte) (i : Nat) :
    (randomizeFrom (lfsrAfter k) d)[i]? = d[i]?.map (· ^^^ lfsrAfter (k + i)) := by
  induction d generalizing k i with
  | nil => rfl
  | cons b bs ih =>
    cases i with
    | zero => rfl
    | succ i =>
      have hnext : lfsrNext (lfsrAfter k) = lfsrAfter (k + 1) := rfl
      rw [randomizeFrom, List.getElem?_cons_succ, List.getElem?_cons_succ, hnext, ih, Nat.add_right_comm, Nat.add_assoc]

/-! ### The CRC register as a linear map (R110, R113) -/

theorem crcShift_eq (x : Crc) : crcShift x = x <<< 1 ^^^ bif x.getLsbD 15 then crcPoly else 0#16 := by
  cases h : x.getLsbD 15 with
  | false => rw [crcShift, if_neg (ne_true_of_eq_false h), cond_false, BitVec.xor_zero]
  | true => rw [crcShift, if_pos h, cond_true]

/-- A shift is linear: the polynomial is folded in once for each operand whose top bit is set. -/
theorem crcShift_xor (x y : Crc) : crcShift (x ^^^ y) = crcShift x ^^^ crcShift y := by
  have hfold (p q : Bool) : (bif p ^^ q then crcPoly else 0#16) =
      (bif p then crcPoly else 0#16) ^^^ bif q then crcPoly else 0#16 := by
    cases p <;> cases q <;> rfl
  simp only [crcShift_eq, BitVec.getLsbD_xor, hfold, BitVec.shiftLeft_xor_distrib]
  ac_rfl

theorem toNat_lt_of_top_bit_clear {x : Crc} (h : x.getLsbD 15 = false) : x.toNat < 2 ^ 15 := by
  have hmsb : x.msb = false := by rw [BitVec.msb_eq_getLsbD_last, h]
  have hlt := BitVec.msb_eq_false_iff_two_mul_lt.1 hmsb
  omega

/-- The polynomial has its lowest bit set and the shifted register has not, so no register is shifted to 0 but 0. -/
theorem eq_zero_of_crcShift_eq_zero {x : Crc} (h : crcShift x = 0#16) : x = 0#16 := by
  cases htop : x.getLsbD 15 with
  | true =>
    have hlow : (crcShift x).getLsbD 0 = true := by
      simp only [crcShift_eq, htop, cond_true, BitVec.getLsbD_xor, BitVec.getLsbD_shiftLeft]
      rfl
    rw [h] at hlow
    cases hlow
  | false =>
    have hlt := toNat_lt_of_top_bit_clear htop
    have hshift : x <<< 1 = 0#16 := by rwa [crcShift_eq, htop, cond_false, BitVec.xor_zero] at h
    bv_omega

theorem crcShifts_xor (n : Nat) (x y : Crc) : crcShifts n (x ^^^ y) = crcShifts n x ^^^ crcShifts n y := by
  induction n generalizing x y with
  | zero => rfl
  | succ n ih => simp only [crcShifts, crcShift_xor, ih]

theorem crcShifts_eq_zero_iff (n : Nat) (x : Crc) : crcShifts n x = 0#16 ↔ x = 0#16 := by
  induction n generalizing x with
  | zero => rfl
  | succ n ih => exact (ih _).trans ⟨eq_zero_of_crcShift_eq_zero, fun hx => by rw [hx]; rfl⟩

theorem crcShifts_injective (n : Nat) : Function.Injective (crcShifts n) := fun x y h => by
  rw [← BitVec.xor_eq_zero_iff, ← crcShifts_eq_zero_iff n, crcShifts_xor, h, BitVec.xor_self]

/-- Eight shifts of a register whose high byte is clear only move its low byte up. -/
theorem crcShifts_eight_low_byte (b : Byte) : crcShifts 8 (b.setWidth 16) = b.setWidth 16 <<< 8 := by
  revert b
  decide

theorem crcUpdate_eq (crc : Crc) (b : Byte) : crcUpdate crc b = crcShifts 8 (crc ^^^ b.setWidth 16 <<< 8) := rfl

/-- The register with these high and low bytes. -/
def crcOfBytes (high low : Byte) : Crc := high ++ low

theorem toNat_crcOfBytes (high low : Byte) : (crcOfBytes high low).toNat = high.toNat * 2 ^ 8 + low.toNat := by
  rw [crcOfBytes, BitVec.toNat_append, ← Nat.shiftLeft_add_eq_or_of_lt low.isLt, Nat.shiftLeft_eq]

theorem crcOfBytes_eq_xor (high low : Byte) :
    crcOfBytes high low = high.setWidth 16 <<< 8 ^^^ low.setWidth 16 := by
  refine BitVec.eq_of_getLsbD_eq fun i hi => ?_
  rw [crcOfBytes, BitVec.getLsbD_append]
  by_cases h : i < 8
  · simp [h, hi]
  · simp [h, hi, BitVec.getLsbD_of_ge low i (by omega)]

theorem crcOfBytes_of_register (crc : Crc) : crcOfBytes ((crc >>> 8).setWidth 8) (crc.setWidth 8) = crc := by
  refine BitVec.eq_of_toNat_eq ?_
  have hcrc := crc.isLt
  simp only [toNat_crcOfBytes, BitVec.toNat_setWidth, BitVec.toNat_ushiftRight, Nat.shiftRight_eq_div_pow]
  omega

theorem crcBytes_eq_iff (crc : Crc) (high low : Byte) : crcBytes crc = [high, low] ↔ crc = crcOfBytes high low := by
  have hcrc := crc.isLt
  have hlow := low.isLt
  have hhigh := high.isLt
  simp only [crcBytes, List.cons.injEq, and_true, BitVec.toNat_inj.symm, toNat_crcOfBytes, BitVec.extractLsb'_toNat,
    Nat.shiftRight_eq_div_pow]
  omega

theorem crcTable_eq (i : Byte) : crcTable i = crcShifts 8 (i.setWidth 16 <<< 8) := by
  rw [crcTable, crcUpdate_eq, BitVec.zero_xor]

/-- The table-driven form (R113): the high byte goes through the table, the low byte moves up. -/
theorem crcUpdate_eq_table (crc : Crc) (b : Byte) :
    crcUpdate crc b = crc <<< 8 ^^^ crcTable ((crc >>> 8).setWidth 8 ^^^ b) := by
  have hsplit : crc ^^^ b.setWidth 16 <<< 8 =
      (crc.setWidth 8).setWidth 16 ^^^ ((crc >>> 8).setWidth 8 ^^^ b).setWidth 16 <<< 8 := by
    conv_lhs => rw [← crcOfBytes_of_register crc, crcOfBytes_eq_xor]
    rw [BitVec.setWidth_xor, BitVec.shiftLeft_xor_distrib]
    ac_rfl
  have hlow : (crc.setWidth 8).setWidth 16 <<< 8 = crc <<< 8 := by bv_omega
  rw [crcUpdate_eq, hsplit, crcShifts_xor, crcShifts_eight_low_byte, hlow, crcTable_eq]

/-! ### The CRC of a byte string (R111, R114, R115, R134) -/

/-- The register before a byte is determined by the one after it. -/
theorem crcUpdate_left_injective (b : Byte) : Function.Injective (crcUpdate · b) := fun _ _ h =>
  (BitVec.xor_left_inj _).1 (crcShifts_injective 8 h)

/-- Different bytes leave different registers. -/
theorem crcUpdate_right_injective (crc : Crc) : Function.Injective (crcUpdate crc) := fun a b h => by
  have hmoved : a.setWidth 16 <<< 8 = b.setWidth 16 <<< 8 := (BitVec.xor_right_inj _).1 (crcShifts_injective 8 h)
  bv_omega

theorem foldl_crcUpdate_injective (bs : List Byte) : Function.Injective (bs.foldl crcUpdate) := by
  induction bs with
  | nil => exact Function.injective_id
  | cons b bs ih => exact ih.comp (crcUpdate_left_injective b)

/-- Two bytes leave 0 exactly on the register that they are the high and the low byte of. -/
theorem crcUpdate_crcUpdate_eq_zero_iff (crc : Crc) (high low : Byte) :
    crcUpdate (crcUpdate crc high) low = 0#16 ↔ crcBytes crc = [high, low] := by
  have hjoin : crcUpdate (crcUpdate crc high) low = crcShifts 8 (crcShifts 8 (crc ^^^ crcOfBytes high low)) := by
    rw [crcOfBytes_eq_xor, ← BitVec.xor_assoc, crcShifts_xor 8 _ (low.setWidth 16), crcShifts_eight_low_byte]
    rfl
  rw [hjoin, crcShifts_eq_zero_iff, crcShifts_eq_zero_iff, BitVec.xor_eq_zero_iff, crcBytes_eq_iff]

/-- Verification against the last two bytes is the residue test (R115). -/
theorem crcOk_iff {frame : List Byte} (h : 2 ≤ frame.length) : crcOk frame = true ↔ crc16 frame = 0#16 := by
  have hlen : (frame.drop (frame.length - 2)).length = 2 := by rw [List.length_drop]; omega
  obtain ⟨high, low, htail⟩ := List.length_eq_two.1 hlen
  have hcrc : crc16 frame = crcUpdate (crcUpdate (crc16 (frame.take (frame.length - 2))) high) low := by
    conv_lhs => rw [← List.take_append_drop (frame.length - 2) frame, htail]
    exact List.foldl_append
  rw [hcrc, crcUpdate_crcUpdate_eq_zero_iff, crcOk, htail, beq_iff_eq, eq_comm]

/-- Frames that differ in one byte have different CRCs: the registers differ after that byte, and from there on. -/
theorem crc16_set_injective {frame : List Byte} {i : Nat} (h : i < frame.length) :
    Function.Injective fun b => crc16 (frame.set i b) := by
  have hset (b : Byte) : crc16 (frame.set i b) =
      (frame.drop (i + 1)).foldl crcUpdate (crcUpdate (crc16 (frame.take i)) b) := by
    rw [List.set_eq_take_append_cons_drop, if_pos h]
    exact List.foldl_append
  intro a b hab
  simp only [hset] at hab
  exact crcUpdate_right_injective _ (foldl_crcUpdate_injective _ hab)

/-! ### What the decoder has after any bytes (R124 to R132) -/

section

variable (cfg : Config)

/-- The decoder `d` after the bytes `raw`, none of them CANCEL, in terms of the bytes `raw` holds and what it unstuffs
to; the escape flag, which nothing reads any more, is `esc`. -/
def Decoder.scanned (raw : List Byte) (esc : Bool) (d : Decoder) : Decoder where
  esc := esc
  sub := d.sub || decide (0x18#8 ∈ raw)
  xerr := d.xerr || (cfg.hwFlowControl && decide (0x11#8 ∈ raw ∨ 0x13#8 ∈ raw))
  long := d.long || decide (cfg.maxFrameLen < (d.frame ++ unstuffed d.esc raw).length)
  frame := (d.frame ++ unstuffed d.esc raw).take cfg.maxFrameLen

theorem byte_substitute (d : Decoder) : d.byte cfg 0x18#8 = { d with sub := true } := rfl

theorem byte_xonXoff {b : Byte} (hb : b = xonByte ∨ b = xoffByte) (d : Decoder) :
    d.byte cfg b = { d with xerr := d.xerr || cfg.hwFlowControl } := by
  have hsub : b ≠ substituteByte := by rintro rfl; exact absurd hb (by decide)
  rw [Decoder.byte, if_neg hsub, if_pos hb]
  cases cfg.hwFlowControl <;> simp

theorem byte_escape (d : Decoder) : d.byte cfg 0x7D#8 = { d with esc := true } := rfl

/-- A byte that is none of the above is decoded and kept while there is room (R129, R130). -/
theorem byte_decoded {b : Byte} (hsub : b ≠ substituteByte) (hx : ¬ (b = xonByte ∨ b = xoffByte)) (hesc : b ≠ escapeByte)
    {d : Decoder} (hd : d.frame.length ≤ cfg.maxFrameLen) : d.byte cfg b = { d with
      esc := false
      long := d.long || decide (cfg.maxFrameLen ≤ d.frame.length)
      frame := (d.frame ++ [if d.esc then b ^^^ 0x20#8 else b]).take cfg.maxFrameLen } := by
  rw [Decoder.byte, if_neg hsub, if_neg hx, if_neg hesc, Decoder.push]
  split
  · next hroom => simp [Nat.not_le.2 hroom, List.take_of_length_le, Nat.succ_le_of_lt hroom, escapeMask]
  · next hfull =>
    have hlen : d.frame.length = cfg.maxFrameLen := Nat.le_antisymm hd (Nat.not_lt.1 hfull)
    simp [← hlen]

theorem byte_frame_length_le {d : Decoder} (b : Byte) (hd : d.frame.length ≤ cfg.maxFrameLen) :
    (d.byte cfg b).frame.length ≤ cfg.maxFrameLen := by
  by_cases hsub : b = 0x18#8
  · rwa [hsub, byte_substitute]
  by_cases hx : b = 0x11#8 ∨ b = 0x13#8
  · rwa [byte_xonXoff cfg hx]
  by_cases hesc : b = 0x7D#8
  · rwa [hesc, byte_escape]
  rw [byte_decoded cfg hsub hx hesc hd]
  exact List.length_take_le ..

theorem take_take_append {α : Type} (n : Nat) (as bs : List α) : (as.take n ++ bs).take n = (as ++ bs).take n := by
  rw [List.take_append, List.take_append, List.take_take, List.length_take, Nat.min_self]
  congr 2
  omega

/-- Scanning a byte and then the others is scanning them all, case by case of the rules for one byte (R125 to R130). -/
theorem scanned_byte {d : Decoder} (b : Byte) (bs : List Byte) (esc : Bool) (hd : d.frame.length ≤ cfg.maxFrameLen) :
    (d.byte cfg b).scanned cfg bs esc = d.scanned cfg (b :: bs) esc := by
  by_cases hsub : b = 0x18#8
  · subst hsub
    simp [byte_substitute, Decoder.scanned, unstuffed]
  by_cases hx : b = 0x11#8 ∨ b = 0x13#8
  · rw [byte_xonXoff cfg hx]
    obtain rfl | rfl := hx <;> cases hhw : cfg.hwFlowControl <;> simp [Decoder.scanned, unstuffed, hhw]
  by_cases hesc : b = 0x7D#8
  · subst hesc
    simp [byte_escape, Decoder.scanned, unstuffed]
  have hunstuffed : unstuffed d.esc (b :: bs) = (if d.esc then b ^^^ 0x20#8 else b) :: unstuffed false bs := by
    rw [unstuffed, if_neg (not_or.2 ⟨hsub, hx⟩), if_neg hesc]
  have hlong (v : Byte) (vs : List Byte) : cfg.maxFrameLen < (d.frame ++ v :: vs).length ↔
      cfg.maxFrameLen ≤ d.frame.length ∨ cfg.maxFrameLen < ((d.frame ++ [v]).take cfg.maxFrameLen ++ vs).length := by
    simp only [List.length_append, List.length_take, List.length_cons, List.length_nil]
    omega
  have hxon : ¬ 0x11#8 = b := fun h => hx (.inl h.symm)
  have hxoff : ¬ 0x13#8 = b := fun h => hx (.inr h.symm)
  rw [byte_decoded cfg hsub hx hesc hd]
  simp only [Decoder.scanned, hunstuffed, take_take_append, List.append_assoc, List.singleton_append, List.mem_cons,
    Ne.symm hsub, hxon, hxoff, false_or, Bool.or_assoc, hlong, Bool.decide_or]

theorem bytes_of_cancel_mem {raw : List Byte} (h : 0x1A#8 ∈ raw) (d : Decoder) : Decoder.bytes cfg raw d = none := by
  induction raw generalizing d with
  | nil => cases h
  | cons b bs ih =>
    rw [Decoder.bytes]
    split
    · rfl
    · next hb => exact ih ((List.mem_cons.1 h).resolve_left fun hc => hb hc.symm) _

theorem bytes_of_cancel_not_mem {raw : List Byte} (h : 0x1A#8 ∉ raw) {d : Decoder}
    (hd : d.frame.length ≤ cfg.maxFrameLen) : ∃ esc, Decoder.bytes cfg raw d = some (d.scanned cfg raw esc) := by
  induction raw generalizing d with
  | nil => exact ⟨d.esc, by simp [Decoder.bytes, Decoder.scanned, unstuffed, List.take_of_length_le hd, Nat.not_lt.2 hd]⟩
  | cons b bs ih =>
    obtain ⟨hb, hbs⟩ := not_or.1 (List.mem_cons.not.1 h)
    obtain ⟨esc, hesc⟩ := ih hbs (byte_frame_length_le cfg b hd)
    have hne : b ≠ cancelByte := Ne.symm hb
    exact ⟨esc, by rw [Decoder.bytes, if_neg hne, hesc, scanned_byte cfg b bs esc hd]⟩

/-- Closing by the bytes collected, without taking them apart (R131). -/
theorem close_eq (d : Decoder) : d.close =
    if d.xerr = true then .xonXoffError d.frame
    else if d.sub = true then .commError d.frame
    else if d.long = true then .tooLong d.frame
    else if d.frame.length = 0 then .empty
    else if d.frame.length < 3 then .tooShort d.frame
    else if crcOk d.frame = false then .badCrc d.frame
    else .ok (d.frame.headD 0) ((d.frame.drop 1).take (d.frame.length - 3)) := by
  obtain ⟨esc, sub, xerr, long, frame⟩ := d
  cases frame with
  | nil => rfl
  | cons c rest =>
    cases hcrc : crcOk (c :: rest) <;> simp [Decoder.close, minFrameLen, hcrc]

/-- The outcome of a raw frame without CANCEL (R131, R132). -/
theorem decodeFrame_of_cancel_not_mem {raw : List Byte} (ovf : Bool) (h : 0x1A#8 ∉ raw) {kept : List Byte}
    (hkept : kept = (unstuffed false raw).take cfg.maxFrameLen) : decodeFrame cfg raw ovf =
      if cfg.hwFlowControl = true ∧ (0x11#8 ∈ raw ∨ 0x13#8 ∈ raw) then .xonXoffError kept
      else if 0x18#8 ∈ raw then .commError kept
      else if ovf = true ∨ cfg.maxFrameLen < (unstuffed false raw).length then .tooLong kept
      else if kept.length = 0 then .empty
      else if kept.length < 3 then .tooShort kept
      else if crcOk kept = false then .badCrc kept
      else .ok (kept.headD 0) ((kept.drop 1).take (kept.length - 3)) := by
  obtain ⟨esc, hbytes⟩ := bytes_of_cancel_not_mem cfg h (d := .start ovf) (Nat.zero_le _)
  have hscanned : (Decoder.start ovf).scanned cfg raw esc =
      { esc, sub := decide (0x18#8 ∈ raw), xerr := cfg.hwFlowControl && decide (0x11#8 ∈ raw ∨ 0x13#8 ∈ raw),
        long := ovf || decide (cfg.maxFrameLen < (unstuffed false raw).length), frame := kept } := by
    rw [hkept]
    rfl
  rw [hscanned] at hbytes
  simp only [decodeFrame, hbytes, close_eq, Bool.and_eq_true, Bool.or_eq_true, decide_eq_true_eq]

theorem decodeFrame_of_cancel_mem {raw : List Byte} (ovf : Bool) (h : 0x1A#8 ∈ raw) :
    decodeFrame cfg raw ovf = .cancelled := by
  rw [decodeFrame, bytes_of_cancel_mem cfg h]

/-- Without hardware flow control an XON or XOFF leaves the decoder alone (R126). -/
theorem bytes_filter_xonXoff (h : cfg.hwFlowControl = false) (raw : List Byte) (d : Decoder) :
    Decoder.bytes cfg (raw.filter fun b => b != 0x11#8 && b != 0x13#8) d = Decoder.bytes cfg raw d := by
  induction raw generalizing d with
  | nil => rfl
  | cons b bs ih =>
    by_cases hb : b = 0x11#8 ∨ b = 0x13#8
    · have hdrop : (b != 0x11#8 && b != 0x13#8) = false := by simpa [or_iff_not_imp_left] using hb
      have hne : b ≠ cancelByte := by rintro rfl; exact absurd hb (by decide)
      have hsame : d.byte cfg b = d := by rw [byte_xonXoff cfg hb, h, Bool.or_false]
      rw [List.filter_cons, if_neg (ne_true_of_eq_false hdrop), Decoder.bytes, if_neg hne, hsame, ih]
    · have hkeep : (b != 0x11#8 && b != 0x13#8) = true := by simpa using hb
      rw [List.filter_cons, if_pos hkeep, Decoder.bytes, Decoder.bytes, ih]

end

/-! ### Legal control bytes and lengths (R80, R85) -/

/-- The value column of the table of 30_encoding.md §1 (R80). -/
theorem frameType_eq (c : Byte) : frameType c =
    if c.toNat ≤ 0x7F then .data
    else if c.toNat ≤ 0x9F then .ack
    else if c.toNat ≤ 0xBF then .nak
    else if c.toNat = 0xC0 then .rst
    else if c.toNat = 0xC1 then .rstack
    else if c.toNat = 0xC2 then .error
    else .invalid := by
  revert c
  decide

theorem lengthOk_frameType_iff (cfg : Config) (c : Byte) (n : Nat) :
    lengthOk cfg (frameType c) (1 + n) = true ↔ legalFrame cfg c n := by
  rw [frameType_eq]
  split_ifs <;> simp [lengthOk] <;> omega

theorem control_of_frameType_data {c : Byte} (h : frameType c = .data) :
    dataControl (frmNumOf c) (bit3Of c) (ackNumOf c) = c := by
  revert c
  decide

theorem control_of_frameType_ack {c : Byte} (h : frameType c = .ack) :
    ackControl (bit4Of c) (bit3Of c) (ackNumOf c) = c := by
  revert c
  decide

theorem control_of_frameType_nak {c : Byte} (h : frameType c = .nak) :
    nakControl (bit4Of c) (bit3Of c) (ackNumOf c) = c := by
  revert c
  decide

theorem control_of_frameType_fixed (c : Byte) : (frameType c = .rst → rstControl = c) ∧
    (frameType c = .rstack → rstackControl = c) ∧ (frameType c = .error → errorControl = c) := by
  revert c
  decide

/-- A legal control byte and length are read as a frame that has them. -/
theorem frameOf_of_legal {cfg : Config} {c : Byte} {d : List Byte} (h : legalFrame cfg c d.length) :
    ∃ f, frameOf cfg c d = some f ∧ f.control = c ∧ f.dataBytes = d := by
  have hok := (lengthOk_frameType_iff cfg c d.length).2 h
  obtain ⟨hrst, hrstack, herror⟩ := control_of_frameType_fixed c
  cases htype : frameType c with
  | data =>
    rw [htype] at hok
    exact ⟨.data (frmNumOf c) (bit3Of c) (ackNumOf c) d, by simp only [frameOf, htype, hok, if_true],
      control_of_frameType_data htype, rfl⟩
  | ack =>
    rw [htype] at hok
    obtain rfl : d = [] := by simpa [lengthOk] using hok
    exact ⟨.ack (bit4Of c) (bit3Of c) (ackNumOf c), by simp only [frameOf, htype, hok, if_true],
      control_of_frameType_ack htype, rfl⟩
  | nak =>
    rw [htype] at hok
    obtain rfl : d = [] := by simpa [lengthOk] using hok
    exact ⟨.nak (bit4Of c) (bit3Of c) (ackNumOf c), by simp only [frameOf, htype, hok, if_true],
      control_of_frameType_nak htype, rfl⟩
  | rst =>
    rw [htype] at hok
    obtain rfl : d = [] := by simpa [lengthOk] using hok
    exact ⟨.rst, by simp only [frameOf, htype, hok, if_true], hrst htype, rfl⟩
  | rstack =>
    rw [htype] at hok
    have hlen : 1 + d.length = 1 + 2 := by simpa [lengthOk] using hok
    obtain ⟨v, r, rfl⟩ := List.length_eq_two.1 (Nat.add_left_cancel hlen)
    exact ⟨.rstack v r, by simp only [frameOf, htype, hok, if_true], hrstack htype, rfl⟩
  | error =>
    rw [htype] at hok
    have hlen : 1 + d.length = 1 + 2 := by simpa [lengthOk] using hok
    obtain ⟨v, e, rfl⟩ := List.length_eq_two.1 (Nat.add_left_cancel hlen)
    exact ⟨.error v e, by simp only [frameOf, htype, hok, if_true], herror htype, rfl⟩
  | invalid =>
    rw [htype] at hok
    cases hok

theorem frameOf_of_not_legal {cfg : Config} {c : Byte} {d : List Byte} (h : ¬ legalFrame cfg c d.length) :
    frameOf cfg c d = none := by
  unfold frameOf
  exact if_neg fun hok => h ((lengthOk_frameType_iff cfg c d.length).1 hok)

/-- A raw frame that decodes is that frame or illegal, by its control byte and length (R253). -/
theorem decodeRaw_of_decodeFrame_ok {cfg : Config} {raw : List Byte} {ovf : Bool} {c : Byte} {d : List Byte}
    (h : decodeFrame cfg raw ovf = .ok c d) :
    (legalFrame cfg c d.length → ∃ f, decodeRaw cfg raw ovf = .ok f ∧ f.control = c ∧ f.dataBytes = d) ∧
    (¬ legalFrame cfg c d.length → decodeRaw cfg raw ovf = .error (.illegal c d)) := by
  constructor
  · intro hlegal
    obtain ⟨f, hf, hfields⟩ := frameOf_of_legal hlegal
    exact ⟨f, by simp only [decodeRaw, h, hf], hfields⟩
  · intro hillegal
    simp only [decodeRaw, h, frameOf_of_not_legal hillegal]

/-! ### The effect of a rejected raw frame (R251, R253) -/

/-- On a live block a rejected raw frame runs its rule and answers the status of the latch afterwards. -/
theorem execRejected_frame {s : State} (r : FrameReject) (hl : s.live) :
    execRejected (.frame r) s =
      let t := ({ s with resp := Response.empty } : State).frameRejected r
      .next (t.respond t.fatalStatus.toStatus) := by
  rw [execRejected, whenLive_live s _ hl, outcome_ok]

/-- A rejected raw frame that is counted, with the counters after that: the reject path, and SUCCESS (R251, R254). -/
theorem execRejected_counted {s : State} {r : FrameReject} {frame : List Byte} {c : Counters} (hl : s.live)
    (hr : ({ s with resp := Response.empty } : State).frameRejected r =
      ({ s with counters := c, resp := Response.empty } : State).rejIfData frame) :
    execRejected (.frame r) s = .next { s with
      counters := c
      rejectCond := s.rejectCond || (s.connected && looksLikeData frame)
      nakPending := s.nakPending || (s.connected && looksLikeData frame && !s.rejectCond)
      resp := Response.bare .success } := by
  rw [execRejected_frame r hl, hr, rejIfData_eq]
  simp only [hl.2]
  rfl

/-- A rejected raw frame whose rule changes nothing only answers SUCCESS (R251). -/
theorem execRejected_ignored {s : State} {r : FrameReject} (hl : s.live)
    (hr : ({ s with resp := Response.empty } : State).frameRejected r = { s with resp := Response.empty }) :
    execRejected (.frame r) s = .next { s with resp := Response.bare .success } := by
  rw [execRejected_frame r hl, hr]
  simp only [hl.2]
  rfl

/-- An XON/XOFF error is a fatal entry (R251, R306). -/
theorem execRejected_xonXoff {s : State} (hl : s.live) :
    execRejected (.frame .xonXoff) s = .next { s.fatalColumn .hostFatalError .xonXoff 0 with
      resp := { status := .hostFatalError, out := [],
                events := s.fatalEvents .hostFatalError .xonXoff 0, value := .empty } } := by
  have hclear : ({ s with resp := Response.empty } : State).fatalStatus = .none := hl.2
  rw [execRejected_frame .xonXoff hl, State.frameRejected, raiseFatal_clear _ _ _ _ hclear]
  rfl

/-! ### The obligations -/

/-- Settles O6: a command by its opcode, a frame by the round trip of the codec (`decode_encode`). -/
theorem decodeOfEncodeIsIdentity : Obligations.DecodeOfEncodeIsIdentity :=
  fun _ _ hv hw => decode_encode hv hw

/-- Settles O7: the stuffed bytes are collected whole and close as the frame (`decodeFrame_rawFrameOf`). -/
theorem decodeFrameInvertsEncodeFrame : Obligations.DecodeFrameInvertsEncodeFrame :=
  fun cfg c _ hlen => ⟨rfl, decodeFrame_rawFrameOf cfg c hlen⟩

/-- Settles O11, the sequence from the seed being the registers after 0, 1, 2, ... steps. -/
theorem randomizeXorsLfsrSequence : Obligations.RandomizeXorsLfsrSequence := by
  refine ⟨fun d => ⟨length_randomizeFrom lfsrSeed d, fun i => ?_⟩, rfl, fun _ => rfl, lfsrNext_eq, by decide⟩
  have h := getElem?_randomizeFrom 0 d i
  rwa [Nat.zero_add] at h

/-- Settles O14: the table form by splitting the register into its bytes, the residue by two updates with them. -/
theorem crcTableAndResidueForms : Obligations.CrcTableAndResidueForms :=
  ⟨crcUpdate_eq_table, fun _ hlen => crcOk_iff (Nat.le_of_succ_le hlen)⟩

/-- Settles O15: the residue of the valid frame is 0, and no other byte in the same place leaves the same residue. -/
theorem crcDetectsOneByteErrors : Obligations.CrcDetectsOneByteErrors := by
  intro frame i e b hlen hok hb he
  obtain ⟨hi, rfl⟩ := List.getElem?_eq_some_iff.1 hb
  rw [Bool.eq_false_iff]
  intro hok'
  have hzero : crc16 frame = 0#16 := (crcOk_iff (Nat.le_of_succ_le hlen)).1 hok
  have hzero' : crc16 (frame.set i (frame[i] ^^^ e)) = 0#16 :=
    (crcOk_iff (by rw [List.length_set]; exact Nat.le_of_succ_le hlen)).1 hok'
  have hsame : frame[i] ^^^ e = frame[i] := crc16_set_injective hi (by
    simp only [List.set_getElem_self, hzero, hzero'])
  exact he (by simpa using hsame)

/-- Settles O17: dropped bytes leave the decoder as it was; the error flag comes first when the frame closes. -/
theorem xonXoffInDecoder : Obligations.XonXoffInDecoder := by
  constructor
  · intro cfg raw ovf hhw
    rw [decodeFrame, decodeFrame, bytes_filter_xonXoff cfg hhw]
  · intro cfg raw ovf hhw hx hc
    exact ⟨_, (decodeFrame_of_cancel_not_mem cfg ovf hc rfl).trans (if_pos ⟨hhw, hx⟩)⟩

/-- Settles O60: the outcome by what the decoder has scanned, legality by the control byte and length, the effect by
the rule of each reject. -/
theorem rejectedRawFrames : Obligations.RejectedRawFrames := by
  refine ⟨fun cfg raw ovf => ⟨decodeFrame_of_cancel_mem cfg ovf, fun hc _ => decodeFrame_of_cancel_not_mem cfg ovf hc⟩,
    fun cfg raw ovf => ?_, ?_⟩
  · cases h : decodeFrame cfg raw ovf with
    | ok c d => exact decodeRaw_of_decodeFrame_ok h
    | badCrc f => simp only [decodeRaw, h]
    | tooShort f => simp only [decodeRaw, h]
    | tooLong f => simp only [decodeRaw, h]
    | commError f => simp only [decodeRaw, h]
    | cancelled => simp only [decodeRaw, h]
    | empty => simp only [decodeRaw, h]
    | xonXoffError f => simp only [decodeRaw, h]
  · intro s raw ovf now rest r hv hl hinput hd rejected
    rw [step_of_fetch_rejected hv (fetch_of_input hinput) hd]
    have hl' : ({ s with input := rest } : State).live := hl
    cases r with
    | badCrc f => exact execRejected_counted hl' rfl
    | tooShort f => exact execRejected_counted hl' rfl
    | tooLong f => exact execRejected_counted hl' rfl
    | commError f => exact execRejected_counted hl' rfl
    | illegal c d => exact execRejected_counted hl' rfl
    | cancelled => exact execRejected_ignored hl' rfl
    | empty => exact execRejected_ignored hl' rfl
    | xonXoff => exact execRejected_xonXoff hl'

/-- Settles O10: by whether the byte is reserved; the XOR of a reserved byte with the mask is not. -/
theorem stuffEscapesExactlyReserved : Obligations.StuffEscapesExactlyReserved := by
  refine ⟨fun b => ?_, rfl, rfl, rfl, rfl, rfl, rfl, fun b x hx hr => ?_⟩
  · simp only [← isReserved_iff]
    rfl
  · obtain ⟨hesc, hstuff⟩ := reserved_of_mem_stuff hx ((isReserved_iff x).2 hr)
    exact ⟨hesc, by rw [hstuff]; rfl, by rw [hstuff]; rfl⟩

end Sys2Proof.Machine
end

section
/-!
SUPPORT. The deframer (41_deframer.md) as the statements speak of it: where a chunk with a CANCEL is cut (R141), the
chunking of a stream without one (R145), the bytes carried up to the next FLAG (R142, R143), and what RX_CHUNK makes of
them (R175).
-/

namespace Sys2Proof.Machine

section

variable (rawMax : Nat) (d : Deframer)

/-! ### The cut after the last CANCEL (R141) -/

theorem afterLastCancel_of_not_mem {chunk : List Byte} (h : cancelByte ∉ chunk) : afterLastCancel chunk = none := by
  induction chunk with
  | nil => rfl
  | cons b bs ih =>
    obtain ⟨hb, hbs⟩ := not_or.1 (List.mem_cons.not.1 h)
    simp only [afterLastCancel, ih hbs, if_neg (Ne.symm hb)]

theorem afterLastCancel_append_cancel (a : List Byte) {b : List Byte} (h : cancelByte ∉ b) :
    afterLastCancel (a ++ cancelByte :: b) = some b := by
  induction a with
  | nil => simp only [List.nil_append, afterLastCancel, afterLastCancel_of_not_mem h, if_pos]
  | cons x xs ih => simp only [List.cons_append, afterLastCancel, ih]

theorem Deframer.chunk_of_cancel_not_mem {chunk : List Byte} (h : cancelByte ∉ chunk) :
    Deframer.chunk rawMax d chunk = Deframer.bytes rawMax chunk d := by
  simp only [Deframer.chunk, afterLastCancel_of_not_mem h]

/-- The carried partial frame is dropped with what precedes the last CANCEL. -/
theorem Deframer.chunk_append_cancel (a : List Byte) {b : List Byte} (h : cancelByte ∉ b) :
    Deframer.chunk rawMax d (a ++ cancelByte :: b) = Deframer.chunk rawMax .clear b := by
  rw [Deframer.chunk_of_cancel_not_mem rawMax .clear h]
  simp only [Deframer.chunk, afterLastCancel_append_cancel a h]

/-! ### Bytes in sequence (R142, R145) -/

/-- The deframer reads a stream in one pass, its state after the first part being all the second needs. -/
theorem Deframer.bytes_append (a b : List Byte) : Deframer.bytes rawMax (a ++ b) d =
    ((Deframer.bytes rawMax a d).1 ++ (Deframer.bytes rawMax b (Deframer.bytes rawMax a d).2).1,
      (Deframer.bytes rawMax b (Deframer.bytes rawMax a d).2).2) := by
  induction a generalizing d with
  | nil => rfl
  | cons x xs ih =>
    simp only [List.cons_append, Deframer.bytes]
    split
    · simp only [ih, List.cons_append]
    · exact ih _

/-! ### Bytes before the next FLAG (R142, R143) -/

/-- The partial frame extended by bytes up to its capacity, those past it setting the overflow bit. -/
def Deframer.extend (bs : List Byte) : Deframer where
  held := (d.held ++ bs).take rawMax
  overflow := d.overflow || decide (rawMax < d.held.length + bs.length)

theorem Deframer.extend_nil (hd : d.held.length ≤ rawMax) : d.extend rawMax [] = d := by
  simp [Deframer.extend, List.take_of_length_le hd, Nat.not_lt.2 hd]

theorem Deframer.extend_extend (a b : List Byte) : (d.extend rawMax a).extend rawMax b = d.extend rawMax (a ++ b) := by
  have hoverflow : (rawMax < d.held.length + a.length ∨ rawMax < min rawMax (d.held.length + a.length) + b.length) ↔
      rawMax < d.held.length + (a.length + b.length) := by omega
  simp only [Deframer.extend, take_take_append, List.append_assoc, List.length_take, List.length_append, Bool.or_assoc,
    ← Bool.decide_or, hoverflow]

theorem Deframer.push_eq_extend (b : Byte) (hd : d.held.length ≤ rawMax) : d.push rawMax b = d.extend rawMax [b] := by
  unfold Deframer.push Deframer.extend
  split
  · next hroom => simp [List.take_of_length_le, Nat.succ_le_of_lt hroom, Nat.not_lt.2 hroom]
  · next hfull => simp [show rawMax = d.held.length by omega]

/-- Without a FLAG no raw frame is delivered, and the bytes extend the partial frame. -/
theorem Deframer.bytes_of_flag_not_mem {bs : List Byte} (h : flagByte ∉ bs) (hd : d.held.length ≤ rawMax) :
    Deframer.bytes rawMax bs d = ([], d.extend rawMax bs) := by
  induction bs generalizing d with
  | nil => rw [Deframer.extend_nil rawMax d hd, Deframer.bytes]
  | cons b bs ih =>
    obtain ⟨hb, hbs⟩ := not_or.1 (List.mem_cons.not.1 h)
    calc Deframer.bytes rawMax (b :: bs) d
      _ = Deframer.bytes rawMax bs (d.push rawMax b) := if_neg (Ne.symm hb)
      _ = Deframer.bytes rawMax bs (d.extend rawMax [b]) := by rw [Deframer.push_eq_extend rawMax d b hd]
      _ = ([], (d.extend rawMax [b]).extend rawMax bs) := ih _ hbs (List.length_take_le _ _)
      _ = ([], d.extend rawMax (b :: bs)) := by rw [Deframer.extend_extend, List.singleton_append]

end

/-! ### The deframer of a state (R36, R140) -/

section

variable (s : State)

/-- The deframer a state holds. -/
def State.deframer : Deframer := { held := s.partialBytes, overflow := s.partialOverflow }

/-- A state with another deframer. -/
def State.setDeframer (d : Deframer) : State := { s with partialBytes := d.held, partialOverflow := d.overflow }

/-- Deframing a state runs the deframer it holds (R140). -/
theorem deframe_eq (chunk : List Byte) : s.deframe chunk =
    ((Deframer.chunk s.cfg.rawMax s.deframer chunk).1,
      s.setDeframer (Deframer.chunk s.cfg.rawMax s.deframer chunk).2) := rfl

theorem deframe_append_cancel (a : List Byte) {b : List Byte} (h : cancelByte ∉ b) :
    s.deframe (a ++ cancelByte :: b) = (s.setDeframer .clear).deframe b := by
  rw [deframe_eq, Deframer.chunk_append_cancel _ _ a h]
  rfl

theorem deframe_of_flag_not_mem {chunk : List Byte} (hflag : flagByte ∉ chunk) (hcancel : cancelByte ∉ chunk)
    (hlen : s.partialBytes.length ≤ s.cfg.rawMax) :
    s.deframe chunk = ([], s.setDeframer (s.deframer.extend s.cfg.rawMax chunk)) := by
  rw [deframe_eq, Deframer.chunk_of_cancel_not_mem _ _ hcancel, Deframer.bytes_of_flag_not_mem _ _ hflag hlen]

end

/-! ### RX_CHUNK on a live block (R175) -/

section

variable {s t : State} {now : Time} {space : Space}

/-- The gate of a live block adds nothing to what the bodies make of the empty response. -/
theorem whenLive_congr {f g : State → Result} (hs : s.live) (ht : t.live)
    (h : f s.beginResponse = g t.beginResponse) : s.beginResponse.whenLive f = t.beginResponse.whenLive g := by
  rw [whenLive_live s f hs, whenLive_live t g ht, ← beginResponse_eq, ← beginResponse_eq, h]

/-- A chunk acts by the raw frames it delivers and the state it leaves to them (R140, R175). -/
theorem exec_rxChunk_congr {c c' : List Byte} (hs : s.live) (ht : t.live)
    (h : s.beginResponse.deframe c = t.beginResponse.deframe c') :
    exec (.rxChunk now space c) s = exec (.rxChunk now space c') t :=
  congrArg Result.outcome (whenLive_congr hs ht (by rw [h]))

/-- A chunk that delivers no raw frame is the TICK of the state it leaves (R175, R176). -/
theorem exec_rxChunk_eq_tick {chunk : List Byte} (hs : s.live) (ht : t.live)
    (h : s.beginResponse.deframe chunk = ([], t.beginResponse)) :
    exec (.rxChunk now space chunk) s = exec (.tick now space) t :=
  congrArg Result.outcome (whenLive_congr hs ht (by rw [h, State.receiveAll]))

/-- With no timer due and no budget, a TICK is the level rule of the ACK timer alone (R200, R235). -/
theorem exec_tick_zero (hl : s.live) (hn : s.noTimerDue now) :
    exec (.tick now 0) s = .next { s with ackTimer := s.levelled now, resp := Response.bare .success } := by
  have htick : s.beginResponse.sendExec now 0 = .ok (s.beginResponse.ackTimerLevel now) :=
    sendExec_noTimerDue s.beginResponse hl hn
  rw [ackTimerLevel_eq] at htick
  exact outcome_whenLive_ok s hl htick hl.2

end

/-! ### The obligations -/

/-- Settles O18: without CANCELs a chunk is its bytes, which are read in one pass (`Deframer.bytes_append`). -/
theorem deframingIgnoresChunking : Obligations.DeframingIgnoresChunking := by
  intro rawMax d a b ha hb
  have hab : cancelByte ∉ a ++ b := fun h => (List.mem_append.1 h).elim ha hb
  rw [Deframer.chunk_of_cancel_not_mem rawMax _ ha, Deframer.chunk_of_cancel_not_mem rawMax _ hb,
    Deframer.chunk_of_cancel_not_mem rawMax _ hab, Deframer.bytes_append]

/-- Settles O19: the deframer cuts the chunk after its last CANCEL and starts from nothing carried. -/
theorem chunkIsCutAtLastCancel : Obligations.ChunkIsCutAtLastCancel := by
  intro s now space a b hl hb
  exact exec_rxChunk_congr (t := s.setDeframer .clear) hl hl (deframe_append_cancel s.beginResponse a hb)

/-- Settles O44: without a FLAG the chunk delivers nothing, and what is left of RX_CHUNK is its tick. -/
theorem chunkWithoutFlagIsCarried : Obligations.ChunkWithoutFlagIsCarried := by
  intro s t now chunk hl hflag hcancel hlen ht
  obtain rfl : t = s.setDeframer (s.deframer.extend s.cfg.rawMax chunk) := ht
  have htick (space : Space) : exec (.rxChunk now space chunk) s =
      exec (.tick now space) (s.setDeframer (s.deframer.extend s.cfg.rawMax chunk)) :=
    exec_rxChunk_eq_tick hl hl (deframe_of_flag_not_mem s.beginResponse hflag hcancel hlen)
  exact ⟨htick, fun hn => (htick 0).trans (exec_tick_zero hl hn)⟩

end Sys2Proof.Machine
end

section
/-!
SUPPORT. The commands that run no tick (43_commands.md R177 to R182), the rejections of SEND (R174) and the gate of
RX_CHUNK, TICK and the frames (R175, R176, R307).
-/

namespace Sys2Proof.Machine

/-! ### Rejections of SEND (R174) -/

section

variable {s : State} {now : Time} {space : Space} {p : List Byte}

/-- A fatal block answers SEND with the latched status, before any other check. -/
theorem exec_send_fatal {st : Status} (h : s.fatalStatus ≠ .none) (hst : s.fatalStatus.toStatus = st) :
    exec (.send now space p) s = .next { s with resp := Response.bare st } := by
  subst hst
  exact congrArg Result.outcome (if_pos h)

theorem exec_send_tooShort (hf : s.fatalStatus = .none) (hp : p.length < s.cfg.minDataLen) :
    exec (.send now space p) s = .next { s with resp := Response.bare .dataFrameTooShort } := by
  simp [exec, execSend, hf, hp, respond_beginResponse]

theorem exec_send_tooLong (hf : s.fatalStatus = .none) (hmin : s.cfg.minDataLen ≤ p.length)
    (hp : s.cfg.maxDataLen < p.length) :
    exec (.send now space p) s = .next { s with resp := Response.bare .dataFrameTooLong } := by
  simp [exec, execSend, hf, hmin.not_gt, hp, respond_beginResponse]

theorem exec_send_notConnected (hf : s.fatalStatus = .none) (hmin : s.cfg.minDataLen ≤ p.length)
    (hmax : p.length ≤ s.cfg.maxDataLen) (hc : s.connected = false) :
    exec (.send now space p) s = .next { s with resp := Response.bare .notConnected } := by
  simp [exec, execSend, hf, hmin.not_gt, hmax.not_gt, hc, respond_beginResponse]

theorem exec_send_noTxSpace (hf : s.fatalStatus = .none) (hmin : s.cfg.minDataLen ≤ p.length)
    (hmax : p.length ≤ s.cfg.maxDataLen) (hc : s.connected = true) (hfl : s.txFreeList = []) :
    exec (.send now space p) s = .next { s with resp := Response.bare .noTxSpace } := by
  simp [exec, execSend, hf, hmin.not_gt, hmax.not_gt, hc, State.txAllocate, hfl, respond_beginResponse]

end

/-! ### The gate of RX_CHUNK, TICK and the frames (R175, R176, R307) -/

/-- The instructions of the traffic: RX_CHUNK, TICK and the six frames. -/
def IsTraffic (i : Instr) : Prop :=
  (∃ now space chunk, i = .rxChunk now space chunk) ∨ (∃ now space, i = .tick now space) ∨
    (∃ now f r a p, i = .data now f r a p) ∨ (∃ now p n a, i = .ack now p n a) ∨ (∃ now p n a, i = .nak now p n a) ∨
    i = .rst ∨ (∃ v r, i = .rstack v r) ∨ (∃ v e, i = .error v e)

/-- Every instruction of the traffic runs its body behind the one gate. -/
theorem exec_traffic {i : Instr} (hi : IsTraffic i) (s : State) :
    ∃ body, exec i s = (s.beginResponse.whenLive body).outcome := by
  rcases hi with ⟨_, _, _, rfl⟩ | ⟨_, _, rfl⟩ | ⟨_, _, _, _, _, rfl⟩ | ⟨_, _, _, _, rfl⟩ | ⟨_, _, _, _, rfl⟩ | rfl |
    ⟨_, _, rfl⟩ | ⟨_, _, rfl⟩ <;> exact ⟨_, rfl⟩

/-! ### RX_POP (R177) -/

/-- A receive handle on neither list of its pool can be freed (R153, R154). -/
theorem rxFree_of_not_mem {s : State} {h : Nat} (hfl : h ∉ s.rxFreeList) (hq : h ∉ s.rxQueue) :
    s.rxFree h = .ok { s with rxFreeList := s.rxFreeList ++ [h] } :=
  (rxFree_ok_iff s h _).2 ⟨hfl, hq, rfl⟩

/-- The oldest payload is delivered and its buffer freed, where no list of the pool holds it a second time. -/
theorem exec_rxPop_cons {s : State} {h : Nat} {q : List Nat} (hq : s.rxQueue = h :: q) (hfl : h ∉ s.rxFreeList)
    (hrest : h ∉ q) :
    exec .rxPop s = .next { s.flowColumn (s.rxFreeList.length + 1) with
      rxQueue := q
      rxFreeList := s.rxFreeList ++ [h]
      resp := { status := .success, out := [], events := [], value := .bytes (s.rxBuffers.read h) } } := by
  have hqueue : s.beginResponse.rxQueue = h :: q := hq
  have hlen : (s.rxFreeList ++ [h]).length = s.rxFreeList.length + 1 := List.length_append
  simp only [exec, execRxPop, hqueue]
  rw [rxFree_of_not_mem]
  · simp only [nrEval_eq, outcome_ok, setValue_rxFreeList, beginResponse_rxFreeList, hlen]
    rfl
  · exact hfl
  · exact hrest

/-! ### The obligations -/

/-- Settles O34: one lemma for each check of R174, in their order. -/
theorem sendRejectionsChangeNothing : Obligations.SendRejectionsChangeNothing := by
  intro s now space p st h
  rcases h with ⟨hf, rfl⟩ | ⟨hf, rfl⟩ | ⟨hf, hp, rfl⟩ | ⟨hf, hmin, hp, rfl⟩ | ⟨hf, hmin, hmax, hc, rfl⟩ |
    ⟨hf, hmin, hmax, hc, hfl, rfl⟩
  · exact exec_send_fatal (by simp [hf]) (by rw [hf]; rfl)
  · exact exec_send_fatal (by simp [hf]) (by rw [hf]; rfl)
  · exact exec_send_tooShort hf hp
  · exact exec_send_tooLong hf hmin hp
  · exact exec_send_notConnected hf hmin hmax hc
  · exact exec_send_noTxSpace hf hmin hmax hc hfl

/-- Settles O36: all of the traffic goes through the one gate. -/
theorem inactiveOrFatalTurnsTrafficAway : Obligations.InactiveOrFatalTurnsTrafficAway := by
  intro s i st hst hi
  obtain ⟨body, hbody⟩ := exec_traffic hi s
  rw [hbody]
  rcases hst with ⟨hact, rfl⟩ | ⟨hact, hf, rfl⟩ | ⟨hact, hf, rfl⟩
  · rw [whenLive_inactive s body hact, outcome_ok]
  · rw [whenLive_fatal s body hact (by simp [hf]), hf, FatalStatus.toStatus, outcome_ok]
  · rw [whenLive_fatal s body hact (by simp [hf]), hf, FatalStatus.toStatus, outcome_ok]

/-- Settles O47: with nothing received the command only answers; else `exec_rxPop_cons`. -/
theorem rxPopDeliversOldest : Obligations.RxPopDeliversOldest := by
  refine ⟨fun s hq => ?_, fun s h q => exec_rxPop_cons⟩
  have hqueue : s.beginResponse.rxQueue = [] := hq
  simp only [exec, execRxPop, hqueue, outcome_ok, respond_beginResponse]

/-- Settles O48: the command reads `connected` and writes the response only. -/
theorem isConnectedReadsConnected : Obligations.IsConnectedReadsConnected := fun _ => rfl

/-- Settles O49: the command reads the quiescence predicate, here term by term. -/
theorem isIdleReadsQuiescence : Obligations.IsIdleReadsQuiescence := by
  refine fun s => ⟨s.quiescent, rfl, ?_⟩
  simp [State.quiescent, and_assoc]

/-- Settles O50: the counters are read in index order or all written with 0. -/
theorem countersReadAndClear : Obligations.CountersReadAndClear := fun _ => ⟨rfl, rfl⟩

end Sys2Proof.Machine
end

section
/-!
SUPPORT. START, STOP, RESET_NCP (43_commands.md R171 to R173) and an accepted SEND (R174), with the loop of the tick
(44_send.md R200) where a CANCEL and an RST are pending, or where fresh DATA is all there is to send.
-/

namespace Sys2Proof.Machine

/-! ### A written buffer (R62) -/

/-- A handle below all the listed ones is unwritten. -/
theorem read_of_forall_lt {m : Memory} {h : Nat} (hm : ∀ e ∈ m, h < e.1) : m.read h = Memory.unwritten := by
  induction m with
  | nil => rfl
  | cons e m ih =>
    obtain ⟨hlt, hrest⟩ := List.forall_mem_cons.1 hm
    rw [Memory.read, if_neg hlt.ne', ih hrest]

/-- A buffer reads as what was written last, in a memory of the canonical form. -/
theorem read_write_self {m : Memory} (h : Nat) (v : List Byte) (hm : m.wf) : (m.write h v).read h = v := by
  induction m with
  | nil =>
    simp only [Memory.write]
    split
    · next hv => rw [hv, Memory.read]
    · rw [Memory.read, if_pos rfl]
  | cons e m ih =>
    obtain ⟨k, w⟩ := e
    obtain ⟨hsorted, hwritten⟩ := hm
    obtain ⟨hk, hsorted'⟩ := List.pairwise_cons.1 hsorted
    simp only [Memory.write]
    split
    · next hlt =>
      split
      · next hv =>
        rw [hv]
        exact read_of_forall_lt (List.forall_mem_cons.2 ⟨hlt, fun e he => hlt.trans (hk e he)⟩)
      · rw [Memory.read, if_pos rfl]
    · split
      · next heq =>
        split
        · next hv => rw [hv]; exact read_of_forall_lt (heq ▸ hk)
        · rw [Memory.read, if_pos rfl]
      · next hne =>
        rw [Memory.read, if_neg (Ne.symm hne)]
        exact ih ⟨hsorted', fun e he => hwritten e (List.mem_cons_of_mem _ he)⟩

/-! ### The loop of the tick (R200) -/

/-- Selection finds nothing (R202, R208). -/
def State.NothingToSend (s : State) : Prop :=
  s.cancelPending = false ∧ s.rstPending = false ∧
    (s.connected = false ∨ (s.ackPending = false ∧ s.nakPending = false ∧ s.retransmit = false ∧
      (s.cfg.txK ≤ dist8 s.ackRx s.frmTx ∨ s.txQueue = [])))

/-- A session in which fresh DATA is all that can be sent next (R202). -/
structure State.OnlyDataLeft (s : State) : Prop where
  connected : s.connected = true
  txFrame : s.txFrame = []
  cancel : s.cancelPending = false
  rst : s.rstPending = false
  ack : s.ackPending = false
  nak : s.nakPending = false
  retransmit : s.retransmit = false

section

variable {s t : State} {now : Time} {space : Space} {n : Nat}

theorem select_of_nothingToSend (h : s.NothingToSend) : s.select now = .ok .nothing := by
  obtain ⟨hcancel, hrst, hcon | ⟨hack, hnak, hre, hwindow | hqueue⟩⟩ := h
  · simp [State.select, hcancel, hrst, hcon]
  · simp [State.select, hcancel, hrst, hack, hnak, hre, State.windowOpen, Nat.not_lt.2 hwindow]
  · simp [State.select, hcancel, hrst, hack, hnak, hre, hqueue]

theorem State.OnlyDataLeft.nothingToSend (h : s.OnlyDataLeft)
    (hq : s.cfg.txK ≤ dist8 s.ackRx s.frmTx ∨ s.txQueue = []) : s.NothingToSend :=
  ⟨h.cancel, h.rst, .inr ⟨h.ack, h.nak, h.retransmit, hq⟩⟩

/-- The frame in progress sent as far as `n` bytes reach; its last byte completes it (R200, R209). -/
def State.frameSent (n : Nat) (s : State) : State :=
  { s with
    txFrame := s.txFrame.drop n
    txKind := if n < s.txFrame.length then s.txKind else .none
    sendState := if n < s.txFrame.length then s.sendState else .idle
    rstSent := s.rstSent || (decide (s.txFrame.length ≤ n) && s.txKind == .rst)
    resp := { s.resp with out := s.resp.out ++ s.txFrame.take n } }

/-- The frame in progress goes out as far as the budget reaches, and what is left of a larger budget is not spent when
there is nothing more to send (R200, R209). -/
theorem sendLoop_frame (hne : s.txFrame ≠ []) (hn : n ≤ s.txFrame.length ∨ s.NothingToSend) :
    s.sendLoop now n = .ok (s.frameSent n) := by
  rcases Nat.lt_or_ge n s.txFrame.length with hlt | hge
  · rw [sendLoop_inside hlt]
    simp [State.frameSent, hlt, hlt.not_ge]
  · rw [sendLoop_past hne hge]
    have hdone : s.txFrame.drop n = [] ∧ s.txFrame.take n = s.txFrame :=
      ⟨List.drop_of_length_le hge, List.take_of_length_le hge⟩
    simp only [State.frameSent, hge.not_gt, hge, hdone, if_false, decide_true, Bool.true_and]
    rcases hn with hle | hnothing
    · rw [Nat.sub_eq_zero_of_le hle, State.sendLoop]
    · exact sendLoop_nothing rfl (select_of_nothingToSend hnothing)

/-- The tick on a live block with no timer due is its loop and the level rule of the ACK timer (R200, R235). -/
theorem sendExec_of_sendLoop (hl : s.live) (hn : s.noTimerDue now) (h : s.sendLoop now space.toNat = .ok t) :
    s.sendExec now space = .ok { t with ackTimer := t.levelled now } := by
  rw [sendExec_noTimerDue s hl hn, State.sendFrames, h, ← ackTimerLevel_eq]

theorem exec_tick_of_sendLoop (hl : s.live) (hn : s.noTimerDue now)
    (h : s.beginResponse.sendLoop now space.toNat = .ok t) (hf : t.fatalStatus = .none) :
    exec (.tick now space) s = .next ({ t with ackTimer := t.levelled now }.respond .success) :=
  outcome_whenLive_ok s hl (sendExec_of_sendLoop (s := s.beginResponse) hl hn h) hf

/-- A tick whose budget ends inside the frame in progress, or that has none, sends that much of it (R200, R201). -/
theorem exec_tick_inside (hl : s.live) (hn : s.noTimerDue now)
    (hspace : space.toNat = 0 ∨ space.toNat < s.txFrame.length) :
    exec (.tick now space) s = .next { s with
      txFrame := s.txFrame.drop space.toNat
      ackTimer := s.levelled now
      resp := { status := .success, out := s.txFrame.take space.toNat, events := [], value := .empty } } := by
  refine exec_tick_of_sendLoop hl hn (t := { s.beginResponse with
    txFrame := s.txFrame.drop space.toNat
    resp := { Response.empty with out := s.txFrame.take space.toNat } }) ?_ hl.2
  rcases hspace with hzero | hlt
  · rw [hzero, State.sendLoop, List.drop_zero, List.take_zero]
    rfl
  · exact sendLoop_inside hlt

/-- A tick that finds nothing to send only lets the ACK timer run (R208, R235). -/
theorem exec_tick_nothing (hl : s.live) (hn : s.noTimerDue now) (hframe : s.txFrame = []) (h : s.NothingToSend) :
    exec (.tick now space) s = .next { s with ackTimer := s.levelled now, resp := Response.bare .success } :=
  exec_tick_of_sendLoop hl hn (sendLoop_nothing hframe (select_of_nothingToSend (s := s.beginResponse) h)) hl.2

/-- What a TICK of an active block answers is what `sendExec` does from the empty response, with the status of the latch
afterwards (R176). -/
theorem exec_tick_next (ha : s.active = true) (h : exec (.tick now space) s = .next t) :
    ∃ u, s.beginResponse.sendExec now space = .ok u ∧ t = u.respond u.fatalStatus.toStatus := by
  simp only [exec, execTick] at h
  by_cases hf : s.fatalStatus = .none
  · rw [whenLive_live s _ ⟨ha, hf⟩, ← beginResponse_eq] at h
    cases hu : s.beginResponse.sendExec now space with
    | error e => simp [hu] at h
    | ok u => exact ⟨u, rfl, by simpa [hu, eq_comm] using h⟩
  · have hlive : ¬ s.beginResponse.live := fun hl => hf hl.2
    rw [whenLive_fatal s _ ha hf, outcome_ok, Host.Outcome.next.injEq] at h
    exact ⟨_, sendExec_notLive _ hlive, h.symm⟩

/-! ### A pending CANCEL and RST (R203, R204) -/

theorem encodeFrame_rst : encodeFrame rstControl [] = [0xC0#8, 0x38#8, 0xBC#8, 0x7E#8] := by decide

/-- A pending RST, and a CANCEL before it where that is pending, sent as far as `n` bytes reach (R203, R204, R209). -/
def State.resetSent (n : Nat) (s : State) : State :=
  let k := if s.cancelPending then 1 else 0
  { s with
    cancelPending := s.cancelPending && decide (n = 0)
    rstPending := decide (n ≤ k)
    rstSent := s.rstSent || decide (k + 4 ≤ n)
    txFrame := if n ≤ k then [] else [0xC0#8, 0x38#8, 0xBC#8, 0x7E#8].drop (n - k)
    txKind := if n ≤ k then s.txKind else if n < k + 4 then .rst else .none
    sendState := if n ≤ k then s.sendState else if n < k + 4 then .sendingShortFrame else .idle
    resp := { s.resp with out := s.resp.out ++
      ((if s.cancelPending then [0x1A#8] else []) ++ [0xC0#8, 0x38#8, 0xBC#8, 0x7E#8]).take n } }

/-- No budget, nothing sent. -/
theorem resetSent_zero (hframe : s.txFrame = []) (hrst : s.rstPending = true) : s.resetSent 0 = s := by
  obtain ⟨⟩ := s
  simp_all [State.resetSent]

theorem sendLoop_rst (hcon : s.connected = false) (hframe : s.txFrame = []) (hrst : s.rstPending = true)
    (hcancel : s.cancelPending = false) : s.sendLoop now n = .ok (s.resetSent n) := by
  cases n with
  | zero => rw [State.sendLoop, resetSent_zero hframe hrst]
  | succ n =>
    have hselect : s.select now = .ok (.picked s.pickRst) := by simp [State.select, hcancel, hrst]
    have hnothing : s.pickRst.NothingToSend := ⟨hcancel, rfl, .inl hcon⟩
    rw [sendLoop_picked hframe hselect (encodeFrame_ne_nil _ _),
      sendLoop_frame (encodeFrame_ne_nil _ _) (.inr hnothing)]
    simp [State.frameSent, State.pickRst, encodeFrame_rst, State.resetSent, hcancel]

theorem sendLoop_cancel_rst (hcon : s.connected = false) (hframe : s.txFrame = []) (hrst : s.rstPending = true) :
    s.sendLoop now n = .ok (s.resetSent n) := by
  cases hcancel : s.cancelPending with
  | false => exact sendLoop_rst hcon hframe hrst hcancel
  | true =>
    cases n with
    | zero => rw [State.sendLoop, resetSent_zero hframe hrst]
    | succ n =>
      have hselect : s.select now = .ok (.cancel s.emitCancel) := by simp [State.select, hcancel]
      have hrest : s.emitCancel.sendLoop now n = .ok (s.emitCancel.resetSent n) := sendLoop_rst hcon hframe hrst rfl
      have hlast : n + 1 < 5 ↔ n < 4 := by omega
      simp only [State.sendLoop, hframe, if_true, hselect, hrest]
      simp [State.emitCancel, State.emit, State.resetSent, hcancel, cancelByte, hlast]

/-- Without a session the level rule leaves the ACK timer alone (R235). -/
theorem levelled_of_not_connected (hcon : s.connected = false) : s.levelled now = s.ackTimer := by
  simp [State.levelled, hcon]

/-- While frames are outstanding the level rule has the ACK timer run (R235). -/
theorem levelled_of_outstanding (hcon : s.connected = true) (hout : s.ackRx ≠ s.frmTx) :
    s.levelled now = if s.ackTimer.running then s.ackTimer else { running := true, start := now } := by
  cases hr : s.ackTimer.running <;> simp [State.levelled, hcon, hout, hr]

/-- The tick that sends what is pending of a CANCEL and an RST (R333). -/
theorem sendExec_cancel_rst (hl : s.live) (hn : s.noTimerDue now) (hcon : s.connected = false)
    (hframe : s.txFrame = []) (hrst : s.rstPending = true) :
    s.sendExec now space = .ok (s.resetSent space.toNat) := by
  have hlevel : (s.resetSent space.toNat).levelled now = s.ackTimer := levelled_of_not_connected hcon
  rw [sendExec_of_sendLoop hl hn (sendLoop_cancel_rst hcon hframe hrst), hlevel]
  rfl

/-- The column "arm" of R331, with the response empty. -/
def State.armed (s : State) : State :=
  { s.resetColumn with
    active := true
    cancelPending := true
    rstPending := true
    notReady := decide (s.cfg.rxPoolSize < 8)
    resp := Response.empty }

theorem arm_beginResponse (hs : s.owned) : s.beginResponse.arm = .ok s.armed := arm_eq s.beginResponse hs

/-- START is the column arm, and then the tick that sends what that leaves pending; its own deadline is not due
(R171, R240). -/
theorem exec_start (hs : s.owned) : exec (.start now space) s =
    .next (({ s.armed with startPending := true, startTime := now }.resetSent space.toNat).respond .pending) := by
  have hn : { s.armed with startPending := true, startTime := now }.noTimerDue now :=
    ⟨fun _ => (elapsed_self now).trans_lt (by decide), fun h => (Bool.false_ne_true h).elim,
      fun h => (Bool.false_ne_true h).elim⟩
  have hexec := sendExec_cancel_rst (s := { s.armed with startPending := true, startTime := now }) (space := space)
    ⟨rfl, rfl⟩ hn rfl rfl rfl
  simp only [exec, execStart, arm_beginResponse hs, hexec, outcome_ok]

/-! ### STOP (R172) -/

/-- STOP ends a waiting START and is the column teardown, where every buffer has its one owner. -/
theorem exec_stop (hs : s.owned) : exec .stop s = .next { s.resetColumn with
    active := false
    startPending := false
    startTime := 0
    resp := { status := .success, out := [],
              events := if s.startPending then [.startDone .hostFatalError] else [], value := .empty } } := by
  have hend := endStart_eq s.beginResponse .hostFatalError
  simp only [exec, execStop]
  rw [teardown_eq _ (by rw [hend]; exact hs), hend]
  rfl

/-! ### Fresh DATA (R207) -/

/-- The window holds at most 7 frames (R9). -/
theorem txK_le_seven {c : Config} (hv : c.valid = true) : c.txK ≤ 7 := by
  simp only [Config.valid, Bool.and_eq_true, decide_eq_true_eq] at hv
  omega

/-- With the window open the number after the newest frame's is not the oldest outstanding one's (R13, R207). -/
theorem ackRx_ne_succ_frmTx {a f : Seq} (h : dist8 a f < 7) : a ≠ f + 1 := by
  revert a f
  decide

/-- The oldest queued payload sent as fresh DATA at `now`, its frame `wire` as far as `n` bytes reach (R207, R235). -/
def State.dataSent (now : Time) (h : Nat) (rest : List Nat) (wire : List Byte) (n : Nat) (s : State) : State :=
  { s with
    txQueue := rest
    reTxQueue := s.reTxQueue ++ [h]
    frmTx := s.frmTx + 1
    ackTx := s.frmRx
    txFrame := wire.drop n
    txKind := if n < wire.length then .data else .none
    sendState := if n < wire.length then .sendingData else .idle
    ackTimer := if s.ackTimer.running then s.ackTimer else { running := true, start := now }
    resp := { status := .success, out := wire.take n, events := [], value := .empty } }

/-- A tick on an open window with nothing more urgent sends the oldest queued payload, and nothing after it within the
frame or when the queue is empty then. -/
theorem exec_tick_data {h : Nat} {rest : List Nat} {wire : List Byte} (hl : s.live) (hn : s.noTimerDue now)
    (hdata : s.OnlyDataLeft) (hk : s.cfg.txK ≤ 7) (hwindow : dist8 s.ackRx s.frmTx < s.cfg.txK)
    (hq : s.txQueue = h :: rest) (hwire : wire = encodeFrame (dataControl s.frmTx false s.frmRx) (s.txBuffers.read h))
    (hpos : 0 < space.toNat) (hspace : space.toNat ≤ wire.length ∨ rest = []) :
    exec (.tick now space) s = .next (s.dataSent now h rest wire space.toNat) := by
  subst hwire
  obtain ⟨hcon, hframe, hcancel, hrst, hack, hnak, hre⟩ := hdata
  have hselect : s.beginResponse.select now = .ok (.picked (s.beginResponse.pickData h rest)) := by
    simp [State.select, State.windowOpen, hcon, hcancel, hrst, hack, hnak, hre, hwindow, hq]
  have hnothing (hrest : rest = []) : (s.beginResponse.pickData h rest).NothingToSend :=
    ⟨hcancel, hrst, .inr ⟨hack, hnak, hre, .inr hrest⟩⟩
  have hloop : s.beginResponse.sendLoop now space.toNat =
      (s.beginResponse.pickData h rest).sendLoop now space.toNat := by
    rw [← Nat.sub_add_cancel hpos]
    exact sendLoop_picked hframe hselect (encodeFrame_ne_nil _ _)
  rw [sendLoop_frame (encodeFrame_ne_nil _ _) (hspace.imp_right hnothing)] at hloop
  have hout : s.ackRx ≠ s.frmTx + 1 := ackRx_ne_succ_frmTx (hwindow.trans_le hk)
  have hlevel := levelled_of_outstanding (s := (s.beginResponse.pickData h rest).frameSent space.toNat) (now := now)
    hcon hout
  rw [exec_tick_of_sendLoop hl hn hloop hl.2, hlevel]
  have hkind : (TxKind.data == TxKind.rst) = false := rfl
  simp only [State.frameSent, State.pickData, hkind, Bool.and_false, Bool.or_false]
  rfl

end

/-! ### An accepted SEND (R174) -/

/-- The payload randomized in the buffer `h`, which goes from the front of the free-list to the back of `txQueue`. -/
def State.payloadQueued (h : Nat) (fl : List Nat) (p : List Byte) (s : State) : State :=
  { s with
    txFreeList := fl
    txBuffers := s.txBuffers.write h (randomize p)
    txQueue := s.txQueue ++ [h] }

section

variable {s t : State} {now : Time} {space : Space} {p : List Byte} {h : Nat} {fl : List Nat}

theorem sendAccepted_ok (ht : { s with
    txBuffers := s.txBuffers.write h (randomize p)
    txQueue := s.txQueue ++ [h] }.sendExec now space = .ok t) :
    s.sendAccepted now space p h = .ok (t.respond .success) := by
  rw [State.sendAccepted, ht]

/-- An accepted SEND is the TICK of the state with the payload queued, with the status SUCCESS. -/
theorem exec_send_of_tick (hl : s.live) (hcon : s.connected = true) (hmin : s.cfg.minDataLen ≤ p.length)
    (hmax : p.length ≤ s.cfg.maxDataLen) (hfl : s.txFreeList = h :: fl)
    (ht : exec (.tick now space) (s.payloadQueued h fl p) = .next t) :
    exec (.send now space p) s = .next (t.respond .success) := by
  obtain ⟨u, hu, rfl⟩ := exec_tick_next (s := s.payloadQueued h fl p) hl.1 ht
  rw [execSend_accepted s hl.2 hmin hmax hcon hfl,
    sendAccepted_ok (s := { s with resp := Response.empty, txFreeList := fl }) hu, outcome_ok]
  rfl

end

/-! ### The obligations -/

/-- Settles O31: the column arm, and then the tick that sends the CANCEL and the RST it left pending. -/
theorem startArmsAndSendsReset : Obligations.StartArmsAndSendsReset := by
  intro s now space hs
  rw [exec_start hs]
  generalize space.toNat = n
  match n with
  | 0 => rfl
  | 1 => rfl
  | n + 2 => simp [State.resetSent, State.armed, State.resetColumn, State.respond, Response.empty]

/-- Settles O32: the column teardown; after it the lists are drained, so that the second teardown moves nothing. -/
theorem stopTearsDown : Obligations.StopTearsDown := by
  intro s hs
  have hstop := exec_stop hs
  refine ⟨_, hstop, rfl, ?_⟩
  rw [exec_stop (owned_of_holdings_eq (holdings_exec .stop hstop) hs)]
  simp [State.resetColumn, Response.bare]

/-- Settles O33: the column arm; then the tick that sends the CANCEL and the RST, in every state that has an RST
pending. -/
theorem resetNcpArmsAndEmitsNothing : Obligations.ResetNcpArmsAndEmitsNothing := by
  refine ⟨fun s hs => ?_, fun s now space k hl hcon hn hframe hrst hk => ?_⟩
  · simp only [exec, execResetNcp, arm_beginResponse hs, outcome_ok]
    rfl
  · subst hk
    exact outcome_whenLive_ok s hl (sendExec_cancel_rst (s := s.beginResponse) hl hn hcon hframe hrst) hl.2

/-- Settles O35: an accepted SEND is a TICK of the state with the payload queued; what that TICK does is what it does
with a frame in progress, with nothing it may send, or with fresh DATA. -/
theorem sendTransmitsFreshData : Obligations.SendTransmitsFreshData := by
  refine ⟨fun s q now space p h fl hv hl hcon hmin hmax hfl hq => ?_, fun s now space k rest wire hv hl hcon hn hframe
    hcancel hrst hack hnak hre hwindow hq hwire hpos hspace => ?_⟩
  · obtain rfl : q = s.payloadQueued h fl p := hq
    have hsend {t : State} := exec_send_of_tick (t := t) (now := now) (space := space) hl hcon hmin hmax hfl
    refine ⟨fun t => hsend, fun hn hspace => hsend (exec_tick_inside hl hn hspace), ?_, ?_⟩
    · intro hn hframe hcancel hrst hack hnak hre hwindow
      have hdata : (s.payloadQueued h fl p).OnlyDataLeft := ⟨hcon, hframe, hcancel, hrst, hack, hnak, hre⟩
      exact hsend (exec_tick_nothing hl hn hframe (hdata.nothingToSend (.inl hwindow)))
    · intro hn hframe hcancel hrst hack hnak hre hwindow hwf hq hpos wire hwire
      have hdata : (s.payloadQueued h fl p).OnlyDataLeft := ⟨hcon, hframe, hcancel, hrst, hack, hnak, hre⟩
      have hread : (s.payloadQueued h fl p).txBuffers.read h = randomize p := read_write_self h _ hwf
      have hqueue : (s.payloadQueued h fl p).txQueue = [h] := by simp [State.payloadQueued, hq]
      rw [← hread] at hwire
      exact hsend (exec_tick_data hl hn hdata (txK_le_seven hv) hwindow hqueue hwire hpos (.inr rfl))
  · exact exec_tick_data hl hn ⟨hcon, hframe, hcancel, hrst, hack, hnak, hre⟩ (txK_le_seven hv) hwindow hq hwire hpos
      (.inl hspace)

end Sys2Proof.Machine
end

section
/-!
SUPPORT. The shell of a command, its response and the bit `active`: the receive machine and the tick read nothing of the
response and only add to it, and the receive machine does not read `active` either (43_commands.md R170, R175, R200,
R250). One lemma for each operation, in the order of the model's files.
-/

namespace Sys2Proof.Machine

/-! ### A changed shell -/

/-- The state with its `active` bit changed by `α` and its response by `φ`. -/
def State.mapShell (α : Bool → Bool) (φ : Response → Response) (s : State) : State :=
  { s with active := α s.active, resp := φ s.resp }

/-- Signalling events goes through `φ`. -/
def KeepsSignals (φ : Response → Response) : Prop :=
  ∀ (r : Response) (es : List Event), φ { r with events := r.events ++ es } = { φ r with events := (φ r).events ++ es }

/-- Emitting a byte goes through `φ`. -/
def KeepsEmits (φ : Response → Response) : Prop :=
  ∀ (r : Response) (b : Byte), φ { r with out := r.out ++ [b] } = { φ r with out := (φ r).out ++ [b] }

/-- The operation does the same from a changed shell, up to that change. -/
abbrev ShellFree (α : Bool → Bool) (φ : Response → Response) (f : State → State) : Prop :=
  Function.Semiconj f (State.mapShell α φ) (State.mapShell α φ)

/-- The same for an operation that can stop with a fault: it also stops alike. -/
abbrev ShellFreeResult (α : Bool → Bool) (φ : Response → Response) (f : State → Result) : Prop :=
  Function.Semiconj f (State.mapShell α φ) (Except.map (State.mapShell α φ))

section

variable {α : Bool → Bool} {φ : Response → Response}

/-- A branch on a condition that does not look at what `v` changes. -/
theorem semiconj_ite {A B : Type} {v : A → A} {w : B → B} {c : A → Prop} [DecidablePred c] {f g : A → B}
    (hc : ∀ x, c (v x) ↔ c x) (hf : Function.Semiconj f v w) (hg : Function.Semiconj g v w) :
    Function.Semiconj (fun x => if c x then f x else g x) v w := by
  intro x
  simp only [hc]
  split
  · exact hf x
  · exact hg x

theorem shellFree_id : ShellFree α φ fun s => s := fun _ => rfl

theorem ShellFree.ok {f : State → State} (hf : ShellFree α φ f) : ShellFreeResult α φ fun s => .ok (f s) :=
  fun s => congrArg Except.ok (hf s)

theorem shellFree_ok : ShellFreeResult α φ .ok := ShellFree.ok shellFree_id

/-- From a changed shell the operation stops with the same fault, or answers the same state up to the change. -/
theorem shellFree_answers (α : Bool → Bool) (φ : Response → Response) {f : State → Result}
    (hf : ShellFreeResult α φ f) (s : State) :
    (∃ e, f (s.mapShell α φ) = .error e ∧ f s = .error e) ∨
      ∃ t, f (s.mapShell α φ) = .ok (t.mapShell α φ) ∧ f s = .ok t := by
  have h := hf s
  cases hs : f s with
  | error e => exact .inl ⟨e, by rw [h, hs, Except.map], rfl⟩
  | ok t => exact .inr ⟨t, by rw [h, hs, Except.map], rfl⟩

/-- A change that does nothing to the shell before does nothing to the shell after. -/
theorem mapShell_eq_of_ok {f : State → Result} {s t : State} (hf : ShellFreeResult α φ f) (hs : s.mapShell α φ = s)
    (h : f s = .ok t) : t.mapShell α φ = t := by
  have key := hf s
  rw [hs, h, Except.map, Except.ok.injEq] at key
  exact key.symm

/-! ### Flags and named operations -/

theorem shellFree_reject : ShellFree α φ State.reject := fun s => by
  simp only [reject_eq]
  rfl

theorem shellFree_rejIfData (frame : List Byte) : ShellFree α φ (State.rejIfData frame) := fun s => by
  simp only [rejIfData_eq]
  rfl

theorem shellFree_endStart (hφ : KeepsSignals φ) (st : Status) : ShellFree α φ (State.endStart st) := fun s => by
  simp only [endStart_eq, State.mapShell]
  rw [hφ]

theorem shellFree_connect (hφ : KeepsSignals φ) : ShellFree α φ State.connect := fun s => by
  simp only [connect_eq, State.mapShell]
  rw [hφ]
  rfl

theorem shellFree_raiseFatal (hφ : KeepsSignals φ) (status : FatalStatus) (code : FatalCode) (info : Byte) :
    ShellFree α φ (State.raiseFatal status code info) := fun s => by
  by_cases h : s.fatalStatus = .none
  · have h' : (s.mapShell α φ).fatalStatus = .none := h
    rw [raiseFatal_clear _ _ _ _ h, raiseFatal_clear _ _ _ _ h']
    simp only [State.mapShell]
    rw [hφ]
    rfl
  · have h' : (s.mapShell α φ).fatalStatus ≠ .none := h
    rw [raiseFatal_latched _ _ _ _ h, raiseFatal_latched _ _ _ _ h']

theorem shellFree_txFree (h : Nat) : ShellFreeResult α φ (State.txFree h) :=
  semiconj_ite (fun _ => .rfl) (fun _ => rfl) (fun _ => rfl)

theorem shellFree_freeReTx (n : Nat) : ShellFreeResult α φ (State.freeReTx n) := by
  induction n with
  | zero => exact shellFree_ok
  | succ n ih =>
    intro s
    have hqueue : (s.mapShell α φ).reTxQueue = s.reTxQueue := rfl
    simp only [State.freeReTx, hqueue]
    cases s.reTxQueue with
    | nil => rfl
    | cons h q =>
      have hpop : ShellFreeResult α φ fun s => { s with reTxQueue := q }.txFree h := fun s =>
        shellFree_txFree h { s with reTxQueue := q }
      obtain ⟨e, h₁, h₂⟩ | ⟨t, h₁, h₂⟩ := shellFree_answers α φ hpop s <;> simp only [h₁, h₂]
      · rfl
      · exact ih t

/-! ### The receive machine -/

theorem shellFree_frameRejected (hφ : KeepsSignals φ) (r : FrameReject) : ShellFree α φ (State.frameRejected r) := by
  cases r with
  | badCrc f => exact fun s => shellFree_rejIfData f s.countCrcError
  | commError f => exact fun s => shellFree_rejIfData f s.countCommError
  | tooShort f => exact fun s => shellFree_rejIfData f s.countTooShort
  | tooLong f => exact fun s => shellFree_rejIfData f s.countTooLong
  | illegal c d => exact fun s => shellFree_rejIfData (c :: d) s.countBadFrame
  | xonXoff => exact shellFree_raiseFatal hφ .hostFatalError .xonXoff 0
  | cancelled => exact shellFree_id
  | empty => exact shellFree_id

theorem shellFree_processAck (a : Seq) (now : Time) : ShellFreeResult α φ (State.processAck a now) := by
  unfold State.processAck
  refine semiconj_ite (fun _ => .rfl) shellFree_ok fun s => ?_
  have hadapt : ShellFree α φ (State.adaptPeriod now) := fun s => by
    simp only [adaptPeriod_eq]
    rfl
  have hfree : ShellFreeResult α φ fun s => (s.adaptPeriod now).freeReTx (dist8 s.ackRx a) := fun s =>
    ((shellFree_freeReTx _).comp_left hadapt) s
  obtain ⟨e, h₁, h₂⟩ | ⟨t, h₁, h₂⟩ := shellFree_answers α φ hfree s <;> simp only [h₁, h₂]
  · rfl
  · simp only [advance_restart_eq]
    rfl

theorem shellFree_acceptData (hφ : KeepsSignals φ) (payload : List Byte) :
    ShellFree α φ (State.acceptData payload) := by
  intro s
  cases hf : s.rxFreeList with
  | nil =>
    rw [acceptData_nil s payload hf, acceptData_nil (s.mapShell α φ) payload hf]
    rfl
  | cons h fl =>
    rw [acceptData_cons s payload hf, acceptData_cons (s.mapShell α φ) payload hf]
    simp only [State.mapShell]
    rw [hφ]
    rfl

theorem shellFree_outOfSequence : ShellFree α φ State.outOfSequence := fun s => by
  simp only [outOfSequence_eq]
  rfl

theorem shellFree_dataFrame (hφ : KeepsSignals φ) (frmNum : Seq) (rFlag : Bool) (payload : List Byte) :
    ShellFree α φ (State.dataFrame frmNum rFlag payload) :=
  semiconj_ite (fun _ => .rfl) (shellFree_acceptData hφ payload)
    (semiconj_ite (fun _ => .rfl) (fun _ => rfl) shellFree_outOfSequence)

theorem shellFree_nakFrame : ShellFree α φ State.nakFrame :=
  semiconj_ite (fun _ => .rfl) (fun _ => rfl) shellFree_id

theorem shellFree_recvData (hφ : KeepsSignals φ) (now : Time) (frmNum : Seq) (rFlag : Bool) (ackNum : Seq)
    (payload : List Byte) : ShellFreeResult α φ (State.recvData now frmNum rFlag ackNum payload) := by
  unfold State.recvData
  refine semiconj_ite (fun _ => .rfl) shellFree_ok (semiconj_ite (fun _ => .rfl)
    (ShellFree.ok fun s => shellFree_reject s.countBadAckNum) fun s => ?_)
  obtain ⟨e, h₁, h₂⟩ | ⟨t, h₁, h₂⟩ := shellFree_answers α φ (shellFree_processAck ackNum now) s <;> simp only [h₁, h₂]
  · rfl
  · exact (shellFree_dataFrame hφ frmNum rFlag payload).ok t

theorem shellFree_processAck_peerNotReady (nFlag : Bool) (ackNum : Seq) (now : Time) :
    ShellFreeResult α φ fun s => { s with peerNotReady := nFlag }.processAck ackNum now :=
  fun s => shellFree_processAck ackNum now { s with peerNotReady := nFlag }

theorem shellFree_recvAck (now : Time) (pFlag nFlag : Bool) (ackNum : Seq) :
    ShellFreeResult α φ (State.recvAck now pFlag nFlag ackNum) :=
  semiconj_ite (fun _ => .rfl) shellFree_ok
    (semiconj_ite (fun _ => .rfl) (fun _ => rfl) (shellFree_processAck_peerNotReady nFlag ackNum now))

theorem shellFree_recvNak (now : Time) (pFlag nFlag : Bool) (ackNum : Seq) :
    ShellFreeResult α φ (State.recvNak now pFlag nFlag ackNum) := by
  unfold State.recvNak
  refine semiconj_ite (fun _ => .rfl) shellFree_ok (semiconj_ite (fun _ => .rfl) (fun _ => rfl) fun s => ?_)
  obtain ⟨e, h₁, h₂⟩ | ⟨t, h₁, h₂⟩ := shellFree_answers α φ (shellFree_processAck_peerNotReady nFlag ackNum now) s <;>
    simp only [h₁, h₂]
  · rfl
  · exact shellFree_nakFrame.ok t

theorem shellFree_recvRstack (hφ : KeepsSignals φ) (version resetReason : Byte) :
    ShellFree α φ (State.recvRstack version resetReason) :=
  semiconj_ite (fun _ => .rfl) (shellFree_raiseFatal hφ _ _ _) (semiconj_ite (fun _ => .rfl)
    (shellFree_raiseFatal hφ _ _ _) (semiconj_ite (fun _ => .rfl) (shellFree_connect hφ) shellFree_id))

theorem shellFree_recvFrame (hφ : KeepsSignals φ) (now : Time) (f : Frame) :
    ShellFreeResult α φ (State.recvFrame now f) := by
  cases f with
  | data n r a d => exact shellFree_recvData hφ now n r a d
  | ack p n a => exact shellFree_recvAck now p n a
  | nak p n a => exact shellFree_recvNak now p n a
  | rst => exact shellFree_ok
  | rstack v r => exact (shellFree_recvRstack hφ v r).ok
  | error v e => exact (shellFree_raiseFatal hφ _ _ _).ok

theorem shellFree_receiveFrame (hφ : KeepsSignals φ) (raw : List Byte) (ovf : Bool) (now : Time) :
    ShellFreeResult α φ (State.receiveFrame raw ovf now) := by
  intro s
  have hcfg : (s.mapShell α φ).cfg = s.cfg := rfl
  simp only [State.receiveFrame, hcfg]
  cases decodeRaw s.cfg raw ovf with
  | ok f => exact shellFree_recvFrame hφ now f s
  | error r => exact (shellFree_frameRejected hφ r).ok s

theorem shellFree_receiveAll (hφ : KeepsSignals φ) (now : Time) (frames : List (List Byte × Bool)) :
    ShellFreeResult α φ (State.receiveAll now frames) := by
  induction frames with
  | nil => exact shellFree_ok
  | cons f frames ih =>
    obtain ⟨raw, ovf⟩ := f
    refine semiconj_ite (fun _ => .rfl) shellFree_ok fun s => ?_
    obtain ⟨e, h₁, h₂⟩ | ⟨t, h₁, h₂⟩ := shellFree_answers α φ (shellFree_receiveFrame hφ raw ovf now) s <;>
      simp only [h₁, h₂]
    · rfl
    · exact ih t

/-! ### The tick -/

theorem shellFree_startTimeoutCheck (hφ : KeepsSignals φ) (now : Time) :
    ShellFree α φ (State.startTimeoutCheck now) :=
  semiconj_ite (fun _ => .rfl) (shellFree_raiseFatal hφ _ _ _) shellFree_id

theorem shellFree_ackTimeoutCheck (hφ : KeepsSignals φ) (now : Time) : ShellFree α φ (State.ackTimeoutCheck now) :=
  semiconj_ite (fun _ => .rfl) (semiconj_ite (fun _ => .rfl)
    (fun s => shellFree_raiseFatal hφ .hostFatalError .timeouts 0 s.countTimeout) (fun _ => rfl)) shellFree_id

theorem shellFree_nrTimerCheck (now : Time) : ShellFree α φ (State.nrTimerCheck now) :=
  semiconj_ite (fun _ => .rfl) (fun _ => rfl) shellFree_id

theorem shellFree_ackTimerLevel (now : Time) : ShellFree α φ (State.ackTimerLevel now) := fun s => by
  simp only [ackTimerLevel_eq]
  rfl

/-- What selection did, with the state it leaves changed by `v`. -/
def Selected.map (v : State → State) : Selected → Selected
  | .nothing => .nothing
  | .cancel s => .cancel (v s)
  | .picked s => .picked (v s)

theorem shellFree_emitCancel (hφ : KeepsEmits φ) : ShellFree α φ State.emitCancel := fun s => by
  simp only [State.emitCancel, State.emit, State.mapShell]
  rw [hφ]

theorem shellFree_pickAck (now : Time) : ShellFree α φ (State.pickAck now) := by
  unfold State.pickAck
  exact semiconj_ite (fun _ => .rfl) (fun _ => rfl) (fun _ => rfl)

theorem shellFree_pickReData : ShellFreeResult α φ State.pickReData := by
  intro s
  have hlookup : peekNth (s.mapShell α φ).reTxQueue (dist8 (s.mapShell α φ).ackRx (s.mapShell α φ).frmReTx) =
    peekNth s.reTxQueue (dist8 s.ackRx s.frmReTx) := rfl
  unfold State.pickReData
  rw [hlookup]
  cases peekNth s.reTxQueue (dist8 s.ackRx s.frmReTx) <;> rfl

theorem shellFree_select (hφ : KeepsEmits φ) (now : Time) :
    Function.Semiconj (State.select now) (State.mapShell α φ) (Except.map (Selected.map (State.mapShell α φ))) := by
  have hcancel (s : State) : Except.ok (ε := Fault) (Selected.cancel (s.mapShell α φ).emitCancel) =
      .ok (.cancel (s.emitCancel.mapShell α φ)) := by rw [shellFree_emitCancel hφ s]
  have hack (s : State) : Except.ok (ε := Fault) (Selected.picked ((s.mapShell α φ).pickAck now)) =
      .ok (.picked ((s.pickAck now).mapShell α φ)) := by rw [shellFree_pickAck now s]
  refine semiconj_ite (fun _ => .rfl) hcancel (semiconj_ite (fun _ => .rfl) (fun _ => rfl)
    (semiconj_ite (fun _ => .rfl) hack (semiconj_ite (fun _ => .rfl) (fun s => ?redata)
      (semiconj_ite (fun _ => .rfl) (fun s => ?data) (fun _ => rfl)))))
  case redata =>
    obtain ⟨e, h₁, h₂⟩ | ⟨t, h₁, h₂⟩ := shellFree_answers α φ shellFree_pickReData s <;>
      simp only [h₁, h₂] <;> rfl
  case data =>
    have hqueue : (s.mapShell α φ).txQueue = s.txQueue := rfl
    simp only [hqueue]
    cases s.txQueue <;> rfl

theorem shellFree_emitNext (hφ : KeepsEmits φ) : ShellFree α φ State.emitNext := by
  intro s
  match hf : s.txFrame with
  | [] => simp only [State.emitNext, hf, show (s.mapShell α φ).txFrame = [] from hf]
  | [b] =>
    rw [emitNext_last s hf, emitNext_last (s.mapShell α φ) hf]
    simp only [State.emit, State.mapShell]
    rw [hφ]
  | b :: c :: rest =>
    rw [emitNext_cons s hf, emitNext_cons (s.mapShell α φ) hf]
    simp only [State.emit, State.mapShell]
    rw [hφ]

theorem shellFree_sendLoop (hφ : KeepsEmits φ) (now : Time) (n : Nat) :
    ShellFreeResult α φ (State.sendLoop now n) := by
  induction n with
  | zero => exact shellFree_ok
  | succ n ih =>
    have hemit : ShellFreeResult α φ fun s => s.emitNext.sendLoop now n := ih.comp_left (shellFree_emitNext hφ)
    have hselect : ShellFreeResult α φ fun s => (s.select now).bind (Selected.resume (State.sendLoop now n) s) := by
      intro s
      dsimp only
      rw [shellFree_select hφ now s]
      cases s.select now with
      | error e => rfl
      | ok x =>
        cases x with
        | nothing => rfl
        | cancel t => exact ih t
        | picked t => exact hemit t
    intro s
    rw [sendLoop_succ, sendLoop_succ]
    exact semiconj_ite (v := State.mapShell α φ) (c := fun s => s.txFrame = []) (fun _ => .rfl) hselect hemit s

theorem shellFree_sendFrames (hφ : KeepsEmits φ) (now : Time) (space : Space) :
    ShellFreeResult α φ (State.sendFrames now space) := by
  intro s
  unfold State.sendFrames
  obtain ⟨e, h₁, h₂⟩ | ⟨t, h₁, h₂⟩ := shellFree_answers α φ (shellFree_sendLoop hφ now space.toNat) s <;>
    simp only [h₁, h₂]
  · rfl
  · exact (shellFree_ackTimerLevel now).ok t

/-- A check of the tick, and what follows it where it has not latched a fatal error (R200). -/
theorem shellFree_unlessFatal {check : State → State} {next : State → Result} (hcheck : ShellFree α φ check)
    (hnext : ShellFreeResult α φ next) :
    ShellFreeResult α φ fun s => if (check s).fatalStatus ≠ .none then .ok (check s) else next (check s) :=
  (semiconj_ite (v := State.mapShell α φ) (c := fun s : State => s.fatalStatus ≠ .none) (fun _ => .rfl) shellFree_ok
    hnext).comp_left hcheck

/-- The tick reads `active`, so only the response may be changed. -/
theorem shellFree_sendExec (hsig : KeepsSignals φ) (hemit : KeepsEmits φ) (now : Time) (space : Space) :
    ShellFreeResult id φ (State.sendExec now space) := by
  have hsend : ShellFreeResult id φ fun s => (s.nrTimerCheck now).sendFrames now space :=
    (shellFree_sendFrames hemit now space).comp_left (shellFree_nrTimerCheck now)
  have hack := shellFree_unlessFatal (shellFree_ackTimeoutCheck hsig now) hsend
  have hstart := shellFree_unlessFatal (shellFree_startTimeoutCheck hsig now) hack
  exact semiconj_ite (fun _ => .rfl) shellFree_ok hstart

end

end Sys2Proof.Machine
end

section
/-!
SUPPORT. What a command emits stays within its budget (43_commands.md R170, 44_send.md R200): the receive machine emits
nothing, each unit of the tick's budget one byte at most.
-/

namespace Sys2Proof.Machine

/-- Where the operation answers, it has emitted at most `n` bytes. -/
def EmitsAtMost (n : Nat) (f : State → Result) : Prop :=
  ∀ ⦃s t : State⦄, f s = .ok t → t.resp.out.length ≤ s.resp.out.length + n

/-! ### Operations that emit nothing -/

section

variable {s t : State}

/-- The response with another output. -/
def Response.setOut (out : List Byte) (r : Response) : Response := { r with out := out }

theorem keepsSignals_setOut (out : List Byte) : KeepsSignals (Response.setOut out) := fun _ _ => rfl

/-- An operation that would leave any other output alone leaves the one there is. -/
theorem emitsAtMost_of_shellFree {f : State → Result}
    (hf : ∀ φ, KeepsSignals φ → ShellFreeResult id φ f) (n : Nat) : EmitsAtMost n f := by
  intro s t h
  have ht : t.mapShell id (.setOut s.resp.out) = t := mapShell_eq_of_ok (hf _ (keepsSignals_setOut _)) rfl h
  rw [← ht]
  exact Nat.le_add_right _ n

/-- The same for an operation that always answers. -/
theorem out_of_shellFree {f : State → State} (hf : ∀ φ, KeepsSignals φ → ShellFree id φ f) (s : State) :
    (f s).resp.out = s.resp.out := by
  have hs : s.mapShell id (.setOut s.resp.out) = s := rfl
  have key := hf _ (keepsSignals_setOut s.resp.out) s
  rw [hs] at key
  rw [key]
  rfl

@[simp] theorem out_nrEval (s : State) : s.nrEval.resp.out = s.resp.out := by rw [nrEval_eq]; rfl

@[simp] theorem out_endStart (s : State) (st : Status) : (s.endStart st).resp.out = s.resp.out := by
  rw [endStart_eq]

/-! ### The tick -/

theorem out_pickAck (s : State) (now : Time) : (s.pickAck now).resp.out = s.resp.out :=
  out_of_shellFree (fun _ _ => shellFree_pickAck now) s

/-- A selection emits the CANCEL byte or nothing (R202, R203). -/
theorem out_select {now : Time} {x : Selected} (h : s.select now = .ok x) :
    x = .nothing ∨ (∃ t, x = .cancel t ∧ t.resp.out = s.resp.out ++ [cancelByte]) ∨
      ∃ t, x = .picked t ∧ t.resp.out = s.resp.out := by
  rcases select_cases h with ⟨-, rfl⟩ | ⟨-, -, rfl⟩ | ⟨-, -, -, -, rfl⟩ | ⟨-, -, -, -, -, -, k, t, -, -, rfl, rfl⟩ |
    ⟨-, -, -, -, -, -, -, k, rest, -, rfl⟩ | ⟨-, -, -, rfl⟩
  case inl => exact .inr (.inl ⟨_, rfl, rfl⟩)
  case inr.inl => exact .inr (.inr ⟨_, rfl, rfl⟩)
  case inr.inr.inl => exact .inr (.inr ⟨_, rfl, out_pickAck s now⟩)
  case inr.inr.inr.inl => exact .inr (.inr ⟨_, rfl, rfl⟩)
  case inr.inr.inr.inr.inl => exact .inr (.inr ⟨_, rfl, rfl⟩)
  case inr.inr.inr.inr.inr => exact .inl rfl

theorem length_out_emitNext (s : State) : s.emitNext.resp.out.length ≤ s.resp.out.length + 1 := by
  match hf : s.txFrame with
  | [] => simp only [State.emitNext, hf]; exact Nat.le_succ _
  | [b] => rw [emitNext_last s hf]; simp [State.emit]
  | b :: c :: rest => rw [emitNext_cons s hf]; simp [State.emit]

/-- Each unit of the budget is one byte at most (R200). -/
theorem emitsAtMost_sendLoop (now : Time) (n : Nat) : EmitsAtMost n (State.sendLoop now n) := by
  induction n with
  | zero => intro s t h; cases h; exact le_rfl
  | succ n ih =>
    intro s t h
    rw [sendLoop_succ] at h
    split at h
    · cases hx : s.select now with
      | error e => rw [hx] at h; cases h
      | ok x =>
        rw [hx] at h
        obtain rfl | ⟨u, rfl, hu⟩ | ⟨u, rfl, hu⟩ := out_select hx
        · cases h; exact Nat.le_add_right _ _
        · have hrest := ih h
          rw [hu, List.length_append, List.length_singleton] at hrest
          omega
        · have hrest := ih h
          have hemit := length_out_emitNext u
          rw [hu] at hemit
          omega
    · have hrest := ih h
      have hemit := length_out_emitNext s
      omega

theorem emitsAtMost_sendFrames (now : Time) (space : Space) :
    EmitsAtMost space.toNat (State.sendFrames now space) := by
  intro s t h
  unfold State.sendFrames at h
  split at h
  · cases h
  · rename_i s' hs'
    cases h
    have hloop := emitsAtMost_sendLoop now _ hs'
    rwa [ackTimerLevel_eq]

theorem emitsAtMost_sendExec (now : Time) (space : Space) : EmitsAtMost space.toNat (State.sendExec now space) := by
  intro s t h
  have hstart := out_of_shellFree (fun φ hφ => shellFree_startTimeoutCheck hφ now)
  have hack := out_of_shellFree (fun φ hφ => shellFree_ackTimeoutCheck hφ now)
  have hnr := out_of_shellFree (fun φ _ => shellFree_nrTimerCheck now)
  unfold State.sendExec at h
  dsimp only at h
  split at h
  · cases h; exact Nat.le_add_right _ _
  · split at h
    · cases h; rw [hstart]; exact Nat.le_add_right _ _
    · split at h
      · cases h; rw [hack, hstart]; exact Nat.le_add_right _ _
      · have hsend := emitsAtMost_sendFrames now space h
        rwa [hnr, hack, hstart] at hsend

/-! ### The instructions -/

theorem length_out_whenLive {body : State → Result} {n : Nat} (hbody : EmitsAtMost n body)
    (h : (s.beginResponse.whenLive body).outcome = .next t) : t.resp.out.length ≤ n := by
  rw [outcome_next_iff] at h
  unfold State.whenLive at h
  split at h
  · cases h; exact Nat.zero_le n
  · split at h
    · cases h; exact Nat.zero_le n
    · split at h
      · cases h
      · rename_i s' hs'
        cases h
        exact (hbody hs').trans_eq (Nat.zero_add n)

/-- A frame handed to the receive machine emits nothing. -/
theorem length_out_frame {body : State → Result} (hbody : ∀ {φ}, KeepsSignals φ → ShellFreeResult id φ body)
    (h : (s.beginResponse.whenLive body).outcome = .next t) : t.resp.out.length ≤ 0 :=
  length_out_whenLive (emitsAtMost_of_shellFree (fun _ hφ => hbody hφ) 0) h

theorem length_out_execStart {now : Time} {space : Space} (h : execStart now space s = .next t) :
    t.resp.out.length ≤ space.toNat := by
  rw [execStart, outcome_next_iff] at h
  split at h
  · cases h
  · rename_i s₁ h₁
    split at h
    · cases h
    · rename_i s₂ h₂
      cases h
      have hsend := emitsAtMost_sendExec now space h₂
      rw [arm_ok h₁] at hsend
      exact hsend.trans_eq (Nat.zero_add _)

theorem out_execStop (h : execStop s = .next t) : t.resp.out = [] := by
  rw [execStop, outcome_next_iff] at h
  split at h
  · cases h
  · rename_i s₁ h₁
    cases h
    rw [teardown_ok h₁]
    exact out_endStart s.beginResponse _

theorem out_execResetNcp (h : execResetNcp s = .next t) : t.resp.out = [] := by
  rw [execResetNcp, outcome_next_iff] at h
  split at h
  · cases h
  · rename_i s₁ h₁
    cases h
    rw [arm_ok h₁]
    rfl

/-- A transmit handle is taken from its free-list, and nothing else changes (R152). -/
theorem txAllocate_some {h : Nat} (ht : s.txAllocate = some (h, t)) : ∃ fl, t = { s with txFreeList := fl } := by
  unfold State.txAllocate at ht
  split at ht <;> cases ht
  exact ⟨_, rfl⟩

theorem length_out_execSend {now : Time} {space : Space} {p : List Byte} (h : execSend now space p s = .next t) :
    t.resp.out.length ≤ space.toNat := by
  rw [execSend, outcome_next_iff] at h
  dsimp only at h
  split at h
  · cases h; exact Nat.zero_le _
  split at h
  · cases h; exact Nat.zero_le _
  split at h
  · cases h; exact Nat.zero_le _
  split at h
  · cases h; exact Nat.zero_le _
  split at h
  · cases h; exact Nat.zero_le _
  rename_i k s₁ hk
  unfold State.sendAccepted at h
  split at h
  · cases h
  · rename_i s₂ h₂
    cases h
    obtain ⟨fl, rfl⟩ := txAllocate_some hk
    exact (emitsAtMost_sendExec now space h₂).trans_eq (Nat.zero_add _)

theorem length_out_execRxChunk {now : Time} {space : Space} {chunk : List Byte}
    (h : execRxChunk now space chunk s = .next t) : t.resp.out.length ≤ space.toNat := by
  refine length_out_whenLive (fun s t h => ?_) h
  split at h
  · cases h
  · rename_i s₁ h₁
    have hreceive := emitsAtMost_of_shellFree (fun φ hφ => shellFree_receiveAll hφ now _) 0 h₁
    have hsend := emitsAtMost_sendExec now space h
    exact hsend.trans (Nat.add_le_add_right hreceive _)

theorem out_execRxPop (h : execRxPop s = .next t) : t.resp.out = [] := by
  rw [execRxPop, outcome_next_iff] at h
  dsimp only at h
  split at h
  · cases h; rfl
  · split at h
    · cases h
    · rename_i s₁ h₁
      obtain ⟨-, -, rfl⟩ := (rxFree_ok_iff _ _ s₁).1 h₁
      cases h
      exact out_nrEval _

end

/-- Settles O25: the receive machine and the reset commands emit nothing, and the tick keeps to its budget. -/
theorem outputStaysWithinSpace : Obligations.OutputStaysWithinSpace := by
  intro s t i h
  cases i with
  | start now space => exact length_out_execStart h
  | stop => exact (congrArg List.length (out_execStop h)).le
  | resetNcp => exact (congrArg List.length (out_execResetNcp h)).le
  | send now space p => exact length_out_execSend h
  | rxChunk now space chunk => exact length_out_execRxChunk h
  | tick now space => exact length_out_whenLive (emitsAtMost_sendExec now space) h
  | rxPop => exact (congrArg List.length (out_execRxPop h)).le
  | isConnected => cases h; exact le_rfl
  | isIdle => cases h; exact le_rfl
  | countersRead => cases h; exact le_rfl
  | countersClear => cases h; exact le_rfl
  | data now n r a d => exact length_out_frame (fun hφ => semiconj_ite (fun _ => .rfl)
      (shellFree_recvData hφ now n r a d) (shellFree_frameRejected hφ _).ok) h
  | ack now p n a => exact length_out_frame (fun _ => shellFree_recvAck now p n a) h
  | nak now p n a => exact length_out_frame (fun _ => shellFree_recvNak now p n a) h
  | rst => exact length_out_frame (fun _ => shellFree_ok) h
  | rstack v r => exact length_out_frame (fun hφ => (shellFree_recvRstack hφ v r).ok) h
  | error v e => exact length_out_frame (fun hφ => (shellFree_raiseFatal hφ _ _ _).ok) h

end Sys2Proof.Machine
end

section
/-!
SUPPORT. RX_CHUNK as the raw frames it delivers, each as a step of its own, and then one TICK (43_commands.md R175,
41_deframer.md R142 to R144, 46_receive.md R250).
-/

namespace Sys2Proof.Machine

/-! ### What a FLAG-closed chunk delivers (R142, R143) -/

/-- A raw frame closed by a FLAG, cut at the deframer's capacity, with its overflow bit (R143). -/
def deliveredRaw (rawMax : Nat) (raw : List Byte) : List Byte × Bool := (raw.take rawMax, decide (rawMax < raw.length))

theorem Deframer.bytes_flatMap_flag (rawMax : Nat) {raws : List (List Byte)} (h : ∀ raw ∈ raws, flagByte ∉ raw) :
    Deframer.bytes rawMax (raws.flatMap (· ++ [flagByte])) .clear = (raws.map (deliveredRaw rawMax), .clear) := by
  induction raws with
  | nil => rfl
  | cons raw raws ih =>
    obtain ⟨hraw, hraws⟩ := List.forall_mem_cons.1 h
    have hfirst := Deframer.bytes_of_flag_not_mem rawMax .clear hraw (Nat.zero_le _)
    have hflag (d : Deframer) (bs : List Byte) : Deframer.bytes rawMax (flagByte :: bs) d =
        ((d.held, d.overflow) :: (Deframer.bytes rawMax bs .clear).1, (Deframer.bytes rawMax bs .clear).2) := rfl
    rw [List.flatMap_cons, List.append_assoc, Deframer.bytes_append, hfirst, List.singleton_append, hflag, ih hraws]
    simp [Deframer.extend, Deframer.clear, deliveredRaw]

theorem deframe_flatMap_flag {s : State} {raws : List (List Byte)} (h : ∀ raw ∈ raws, flagByte ∉ raw ∧ cancelByte ∉ raw)
    (hpartial : s.partialBytes = []) (hoverflow : s.partialOverflow = false) :
    s.deframe (raws.flatMap (· ++ [flagByte])) = (raws.map (deliveredRaw s.cfg.rawMax), s) := by
  have hclear : s.deframer = .clear := by rw [State.deframer, hpartial, hoverflow, Deframer.clear]
  have hcancel : cancelByte ∉ raws.flatMap (· ++ [flagByte]) := by
    simp only [List.mem_flatMap, List.mem_append, not_exists, not_and]
    rintro raw hraw (hmem | hmem)
    · exact (h raw hraw).2 hmem
    · exact absurd (List.mem_singleton.1 hmem) (by decide)
  rw [deframe_eq, Deframer.chunk_of_cancel_not_mem _ _ hcancel, hclear,
    Deframer.bytes_flatMap_flag _ fun raw hraw => (h raw hraw).1, ← hclear]
  rfl

/-- The raw frame of a frame, its wire bytes without the FLAG (R86). -/
def rawOf (f : Frame) : List Byte := rawFrameOf f.control f.dataBytes

theorem flag_cancel_not_mem_rawOf (f : Frame) : flagByte ∉ rawOf f ∧ cancelByte ∉ rawOf f := by
  constructor <;> intro hmem <;> obtain ⟨hflag, hcancel, -⟩ := ne_reserved_of_mem_rawFrameOf hmem
  · exact hflag rfl
  · exact hcancel rfl

/-- The raw frame of a well-formed frame fits in the deframer, so it is delivered whole (R9, R143). -/
theorem deliveredRaw_rawOf {cfg : Config} {now : Time} {f : Frame} (hv : cfg.valid = true)
    (hw : (Instr.ofFrame now f).wellFormed cfg = true) : deliveredRaw cfg.rawMax (rawOf f) = (rawOf f, false) := by
  have hlen : (rawOf f).length ≤ cfg.rawMax :=
    (length_rawFrameOf_bounds f.control f.dataBytes).2.trans (Nat.mul_le_mul_left 2 (dataBytes_length_le hv hw))
  simp [deliveredRaw, List.take_of_length_le hlen, hlen]

/-! ### A raw frame as a step (R250) -/

section

variable {s t : State} {now : Time} {space : Space}

/-- A raw frame that decodes to DATA has the legal length of one (R85). -/
theorem lengthOk_of_decodeRaw {cfg : Config} {raw : List Byte} {ovf : Bool} {n : Seq} {r : Bool} {a : Seq}
    {d : List Byte} (h : decodeRaw cfg raw ovf = .ok (.data n r a d)) : lengthOk cfg .data (1 + d.length) = true := by
  cases hdec : decodeFrame cfg raw ovf with
  | ok c data =>
    obtain ⟨hlegal, hillegal⟩ := decodeRaw_of_decodeFrame_ok hdec
    by_cases hl : legalFrame cfg c data.length
    · obtain ⟨f, hf, rfl, rfl⟩ := hlegal hl
      obtain rfl : f = .data n r a d := by rw [h] at hf; exact (Except.ok.inj hf).symm
      have htype : frameType (Frame.data n r a d).control = .data := (dataControl_fields n r a).1
      rw [← lengthOk_frameType_iff, htype] at hl
      exact hl
    · rw [hillegal hl] at h
      cases h
  | _ => simp [decodeRaw, hdec] at h

/-- The instruction of a frame that a raw frame decodes to is the frame's rule behind the gate (R175, R250). -/
theorem exec_ofFrame {raw : List Byte} {ovf : Bool} {f : Frame} (hl : s.live)
    (h : decodeRaw s.cfg raw ovf = .ok f) :
    exec (Instr.ofFrame now f) s = (s.beginResponse.whenLive (State.recvFrame now f)).outcome := by
  cases f with
  | data n r a d => exact congrArg Result.outcome (whenLive_congr hl hl (if_pos (lengthOk_of_decodeRaw h)))
  | ack p n a => rfl
  | nak p n a => rfl
  | rst => rfl
  | rstack v r => rfl
  | error v e => rfl

/-- A raw frame offered to a live block is received behind the gate, whether it decodes or is rejected. -/
theorem step_offer_rawFrame (hv : s.cfg.valid = true) (hl : s.live) (raw : List Byte) (ovf : Bool) :
    step (s.offer (.rawFrame raw ovf now)) = (s.beginResponse.whenLive (State.receiveFrame raw ovf now)).outcome := by
  cases hdec : decodeRaw s.cfg raw ovf with
  | ok f =>
    have hd : decode s.cfg (.rawFrame raw ovf now) = .ok (Instr.ofFrame now f) := by simp only [decode, hdec]
    rw [step_of_fetch (s := s.offer _) hv (fetch_offer s _) hd, exec_ofFrame hl hdec]
    refine congrArg Result.outcome (whenLive_congr hl hl ?_)
    simp only [State.receiveFrame, beginResponse_cfg, hdec]
  | error r =>
    have hd : decode s.cfg (.rawFrame raw ovf now) = .error (.frame r) := by simp only [decode, hdec]
    rw [step_of_fetch_rejected (s := s.offer _) hv (fetch_offer s _) hd]
    refine congrArg Result.outcome (whenLive_congr hl hl ?_)
    simp only [State.receiveFrame, beginResponse_cfg, hdec]

/-! ### Raw frames in turn (R144, R175) -/

/-- The response with events before its own. -/
def Response.after (es : List Event) (r : Response) : Response := { r with events := es ++ r.events }

theorem keepsSignals_after (es : List Event) : KeepsSignals (Response.after es) :=
  fun r es' => by simp only [Response.after, List.append_assoc]

theorem keepsEmits_after (es : List Event) : KeepsEmits (Response.after es) := fun _ _ => rfl

/-- A raw frame received from the empty response leaves `active` and the configuration, and a response that holds
nothing but its events. -/
theorem receiveFrame_shell {raw : List Byte} {ovf : Bool} (h : s.beginResponse.receiveFrame raw ovf now = .ok t) :
    t.active = s.active ∧ t.cfg = s.cfg ∧ t = t.beginResponse.mapShell id (.after t.resp.events) := by
  have hsig : KeepsSignals fun r => { Response.empty with events := r.events } := fun _ _ => rfl
  have hshell : t.mapShell (fun _ => s.active) (fun r => { Response.empty with events := r.events }) = t :=
    mapShell_eq_of_ok (shellFree_receiveFrame hsig raw ovf now) rfl h
  refine ⟨(congrArg State.active hshell).symm, congrArg Prod.fst (holdings_receiveFrame raw ovf now h), ?_⟩
  conv_lhs => rw [← hshell]
  rw [← hshell]
  simp [State.mapShell, State.beginResponse, Response.after, Response.empty]

/-- Events that are there before raw frames are received come before the events of those. -/
theorem receiveAll_after {frames : List (List Byte × Bool)} {es es' : List Event}
    (hs : s = s.beginResponse.mapShell id (.after es))
    (h : s.beginResponse.receiveAll now frames = .ok (t.beginResponse.mapShell id (.after es'))) :
    s.receiveAll now frames = .ok (t.beginResponse.mapShell id (.after (es ++ es'))) := by
  have key := shellFree_receiveAll (α := id) (keepsSignals_after es) now frames s.beginResponse
  rw [← hs, h] at key
  rw [key]
  simp [Except.map, State.mapShell, Response.after]

/-- Raw frames received by a step each, from an active block, are the raw frames received all in one command. -/
theorem receiveAll_of_stepRawFrames {frames : List (List Byte × Bool)} {events : List Event}
    (hv : s.cfg.valid = true) (ha : s.active = true) (h : stepRawFrames now frames s = some (t, events)) :
    t.active = true ∧
      s.beginResponse.receiveAll now frames = .ok (t.beginResponse.mapShell id (.after events)) := by
  induction frames generalizing s events with
  | nil => cases h; exact ⟨ha, rfl⟩
  | cons f frames ih =>
    obtain ⟨raw, ovf⟩ := f
    simp only [stepRawFrames, runInTurn] at h
    simp only [State.receiveAll]
    split at h
    · next hf =>
      cases h
      exact ⟨ha, if_pos hf⟩
    · next hf =>
      have hl : s.live := ⟨ha, not_not.1 hf⟩
      rw [step_offer_rawFrame hv hl, whenLive_live s _ hl, ← beginResponse_eq] at h
      rw [if_neg (by exact hf)]
      cases hu : s.beginResponse.receiveFrame raw ovf now with
      | error e => simp [hu] at h
      | ok u =>
        obtain ⟨hactive, hcfg, hshell⟩ := receiveFrame_shell hu
        simp only [hu, outcome_ok, Option.map_eq_some_iff] at h
        obtain ⟨⟨t', events'⟩, hrest, heq⟩ := h
        cases heq
        obtain ⟨ht, hall⟩ := ih (s := u.respond u.fatalStatus.toStatus) (hcfg ▸ hv) (hactive.trans ha) hrest
        exact ⟨ht, receiveAll_after hshell hall⟩

/-! ### RX_CHUNK (R175) -/

/-- Where the body answers, the status is that of the latch afterwards (R175, R176). -/
theorem outcome_whenLive {body : State → Result} (hl : s.live) (hbody : body s.beginResponse = .ok t) :
    (s.beginResponse.whenLive body).outcome = .next (t.respond t.fatalStatus.toStatus) := by
  rw [whenLive_live s body hl, ← beginResponse_eq, hbody, outcome_ok]

/-- The raw frames a chunk delivers, a step each, and then one TICK. -/
theorem exec_rxChunk_of_stepRawFrames {s₁ s₂ : State} {chunk : List Byte} {events : List Event}
    (hv : s.cfg.valid = true) (hl : s.live)
    (h : stepRawFrames now (s.deframe chunk).1 (s.deframe chunk).2 = some (s₁, events))
    (ht : exec (.tick now space) s₁ = .next s₂) :
    exec (.rxChunk now space chunk) s =
      .next { s₂ with resp := { s₂.resp with events := events ++ s₂.resp.events } } := by
  obtain ⟨ha, hall⟩ := receiveAll_of_stepRawFrames (s := (s.deframe chunk).2) hv hl.1 h
  obtain ⟨u, hu, rfl⟩ := exec_tick_next ha ht
  have htick := shellFree_sendExec (keepsSignals_after events) (keepsEmits_after events) now space s₁.beginResponse
  rw [hu] at htick
  refine outcome_whenLive (t := u.mapShell id (.after events)) hl ?_
  have hdeframe : s.beginResponse.deframe chunk = ((s.deframe chunk).1, (s.deframe chunk).2.beginResponse) := rfl
  simp only [hdeframe, hall]
  exact htick

/-- Well-formed frames, each as its instruction, are their raw frames, each as a step (R250). -/
theorem execFrames_eq_stepRawFrames {fs : List Frame} (hv : s.cfg.valid = true)
    (hw : ∀ f ∈ fs, (Instr.ofFrame now f).wellFormed s.cfg = true) :
    execFrames now fs s = stepRawFrames now (fs.map fun f => (rawOf f, false)) s := by
  induction fs generalizing s with
  | nil => rfl
  | cons f fs ih =>
    obtain ⟨hf, hfs⟩ := List.forall_mem_cons.1 hw
    have hstep : step (s.offer (.rawFrame (rawOf f) false now)) = exec (Instr.ofFrame now f) s :=
      step_of_fetch (s := s.offer _) hv (fetch_offer s _) (decode_toInput hv hf)
    simp only [execFrames, stepRawFrames, List.map_cons, runInTurn, hstep]
    split
    · rfl
    · cases hexec : exec (Instr.ofFrame now f) s with
      | next t =>
        have hcfg : t.cfg = s.cfg := congrArg Prod.fst (holdings_exec _ hexec)
        have hrest := ih (s := t) (hcfg ▸ hv) (hcfg ▸ hfs)
        exact congrArg (Option.map _) hrest
      | fault r => rfl
      | refused r => rfl

end

/-- Settles O45: every chunk by its raw frames; what a FLAG-closed chunk delivers; and well-formed frames, whose wire
bytes are such a chunk and whose instructions are the steps of their raw frames. -/
theorem rxChunkIsFrameThenTick : Obligations.RxChunkIsFrameThenTick := by
  refine ⟨fun s s₁ s₂ now space chunk events hv hl => exec_rxChunk_of_stepRawFrames hv hl,
    fun s raws h hpartial hoverflow => deframe_flatMap_flag h hpartial hoverflow, ?_⟩
  intro s s₁ s₂ now space fs events hv hw hl hpartial hoverflow h ht
  have hraws : ∀ raw ∈ fs.map rawOf, flagByte ∉ raw ∧ cancelByte ∉ raw := by
    intro raw hraw
    obtain ⟨f, -, rfl⟩ := List.mem_map.1 hraw
    exact flag_cancel_not_mem_rawOf f
  have hchunk : fs.flatMap Frame.wire = (fs.map rawOf).flatMap (· ++ [flagByte]) := by
    rw [List.flatMap_map]
    rfl
  have hframes : (fs.map rawOf).map (deliveredRaw s.cfg.rawMax) = fs.map fun f => (rawOf f, false) := by
    rw [List.map_map]
    exact List.map_congr_left fun f hf => deliveredRaw_rawOf hv (hw f hf)
  have hdeframe := deframe_flatMap_flag hraws hpartial hoverflow
  rw [hframes, ← hchunk] at hdeframe
  refine exec_rxChunk_of_stepRawFrames hv hl ?_ ht
  rw [hdeframe, ← execFrames_eq_stepRawFrames hv hw, h]

end Sys2Proof.Machine
end

section
/-!
SUPPORT. The tick where nothing may be sent, where a NAK or an ACK is sent next, and where the outstanding frames are
sent again (44_send.md R202, R205, R206, R208, 45_timers.md R235, R243).
-/

namespace Sys2Proof.Machine

section

variable {s t : State} {now : Time} {space : Space} {n : Nat}

/-! ### The level rule where it does nothing (R235) -/

theorem levelled_of_running (h : s.ackTimer.running = true) : s.levelled now = s.ackTimer := by
  simp [State.levelled, h]

theorem levelled_of_none_outstanding (h : s.ackRx = s.frmTx) : s.levelled now = s.ackTimer := by
  simp [State.levelled, h]

/-! ### The frame picked next (R202) -/

/-- A tick that picks a frame, other than an RST, sends as much of it as its budget reaches, up to its end (R200,
R201). -/
theorem exec_tick_picked {p : State} (hl : s.live) (hn : s.noTimerDue now) (hframe : s.txFrame = [])
    (hselect : s.beginResponse.select now = .ok (.picked p)) (hp : p.txFrame ≠ []) (hkind : p.txKind ≠ .rst)
    (hf : p.fatalStatus = .none) (hresp : p.resp = Response.empty) (hpos : 0 < space.toNat)
    (hspace : space.toNat ≤ p.txFrame.length) :
    exec (.tick now space) s = .next { p with
      txFrame := p.txFrame.drop space.toNat
      txKind := if space.toNat < p.txFrame.length then p.txKind else .none
      sendState := if space.toNat < p.txFrame.length then p.sendState else .idle
      ackTimer := p.levelled now
      resp := { status := .success, out := p.txFrame.take space.toNat, events := [], value := .empty } } := by
  have hloop : s.beginResponse.sendLoop now space.toNat = .ok (p.frameSent space.toNat) := by
    rw [← sendLoop_frame hp (.inl hspace), ← Nat.sub_add_cancel hpos]
    exact sendLoop_picked hframe hselect hp
  have hkind' : (p.txKind == .rst) = false := beq_eq_false_iff_ne.2 hkind
  rw [exec_tick_of_sendLoop hl hn hloop hf]
  simp only [State.frameSent, hkind', Bool.and_false, Bool.or_false, hresp]
  rfl

/-! ### NAK and ACK (R205, R241, R243) -/

/-- The NAK or ACK that is sent next (R205). -/
def State.ackWire (s : State) : List Byte :=
  encodeFrame (if s.nakPending then nakControl false s.notReady s.frmRx else ackControl false s.notReady s.frmRx) []

/-- A frame that says not ready has the refresh timer run (R241). -/
theorem pickAck_eq : s.pickAck now = { s with
    txFrame := s.ackWire
    txKind := if s.nakPending then .nak else .ack
    sendState := .sendingShortFrame
    ackTx := s.frmRx
    nakPending := false
    ackPending := false
    nrTimer := if s.notReady && !s.nrTimer.running then { running := true, start := now } else s.nrTimer } := by
  obtain ⟨⟩ := s
  simp only [State.pickAck, State.nrTimerStart, State.ackWire]
  split <;> rfl

theorem select_ack (hcon : s.connected = true) (hcancel : s.cancelPending = false) (hrst : s.rstPending = false)
    (hask : s.nakPending = true ∨ s.ackPending = true) : s.select now = .ok (.picked (s.pickAck now)) := by
  simp [State.select, hcon, hcancel, hrst, hask]

/-- A pending NAK or ACK sent at `now` as far as `n` bytes reach (R205, R241). -/
def State.ackSent (now : Time) (n : Nat) (s : State) : State :=
  { s with
    ackPending := false
    nakPending := false
    ackTx := s.frmRx
    txFrame := s.ackWire.drop n
    txKind := if n < s.ackWire.length then (if s.nakPending then .nak else .ack) else .none
    sendState := if n < s.ackWire.length then .sendingShortFrame else .idle
    nrTimer := if s.notReady && !s.nrTimer.running then { running := true, start := now } else s.nrTimer
    ackTimer := s.levelled now
    resp := { status := .success, out := s.ackWire.take n, events := [], value := .empty } }

theorem exec_tick_ack (hl : s.live) (hn : s.noTimerDue now) (hcon : s.connected = true) (hframe : s.txFrame = [])
    (hcancel : s.cancelPending = false) (hrst : s.rstPending = false)
    (hask : s.nakPending = true ∨ s.ackPending = true) (hpos : 0 < space.toNat)
    (hspace : space.toNat ≤ s.ackWire.length) :
    exec (.tick now space) s = .next (s.ackSent now space.toNat) := by
  have hselect : s.beginResponse.select now = .ok (.picked (s.beginResponse.pickAck now)) :=
    select_ack hcon hcancel hrst hask
  rw [pickAck_eq] at hselect
  refine exec_tick_picked hl hn hframe hselect (encodeFrame_ne_nil _ _) ?_ hl.2 rfl hpos hspace
  dsimp only
  split <;> simp

/-- What the expiry of the refresh timer leaves: an ACK is asked for and the timer stops (R293). -/
def State.refreshExpired (s : State) : State :=
  { s with ackPending := true, nrTimer := { running := false, start := s.nrTimer.start } }

theorem nrTimerCheck_due (hcon : s.connected = true) (hr : s.nrTimer.running = true)
    (hdue : s.cfg.nrRefresh ≤ elapsed now s.nrTimer.start) : s.nrTimerCheck now = s.refreshExpired := by
  simp [State.nrTimerCheck, Timer.expired, hcon, hr, hdue, State.refreshExpired, State.nrTimerStop]

/-- A tick on which the refresh timer expires is the tick of the state that this leaves. -/
theorem exec_tick_refreshExpired (hl : s.live) (hcon : s.connected = true)
    (hstart : s.startPending = true → elapsed now s.startTime < 2500)
    (hack : s.ackTimer.running = true → elapsed now s.ackTimer.start < s.ackPeriod.toNat)
    (hr : s.nrTimer.running = true) (hdue : s.cfg.nrRefresh ≤ elapsed now s.nrTimer.start) :
    exec (.tick now space) s = exec (.tick now space) s.refreshExpired := by
  refine exec_tick_congr hl hl ?_
  have hcheck := ackTimeoutCheck_idle s.beginResponse now fun _ => hack
  rw [sendExec_of_ackTimeoutCheck (s := s.beginResponse) hl hstart hcheck hl.2,
    nrTimerCheck_due (s := s.beginResponse) hcon hr hdue]
  have hn : s.refreshExpired.beginResponse.noTimerDue now :=
    ⟨hstart, fun _ => hack, fun _ h => (Bool.false_ne_true h).elim⟩
  exact (sendExec_noTimerDue s.refreshExpired.beginResponse hl hn).symm

/-! ### Retransmission (R206) -/

/-- Frame `frmReTx` of handle `k`, in retransmission mode the frame in progress (R206). -/
def State.reDataPicked (k : Nat) (s : State) : State :=
  { s with
    frmReTx := s.frmReTx + 1
    retransmit := decide (s.frmReTx + 1 ≠ s.frmTx)
    ackTx := s.frmRx
    txFrame := encodeFrame (dataControl s.frmReTx true s.frmRx) (s.txBuffers.read k)
    txKind := .redata
    sendState := .resendingData }

theorem pickReData_eq {k : Nat} (hre : s.retransmit = true) (hk : s.reTxQueue[dist8 s.ackRx s.frmReTx]? = some k) :
    s.pickReData = .ok (s.reDataPicked k) := by
  have hmode : (if s.frmReTx + 1 = s.frmTx then false else true) = decide (s.frmReTx + 1 ≠ s.frmTx) := by
    split <;> simp_all
  simp only [State.pickReData, peekNth, hk, hre, inc8, hmode, State.reDataPicked]

/-- A session with no frame in progress and nothing of the rows 1 to 3 of the selection pending (R202). -/
structure State.NothingUrgent (s : State) : Prop where
  connected : s.connected = true
  txFrame : s.txFrame = []
  cancel : s.cancelPending = false
  rst : s.rstPending = false
  ack : s.ackPending = false
  nak : s.nakPending = false

theorem select_reData {k : Nat} (hu : s.NothingUrgent) (hre : s.retransmit = true)
    (hk : s.reTxQueue[dist8 s.ackRx s.frmReTx]? = some k) : s.select now = .ok (.picked (s.reDataPicked k)) := by
  obtain ⟨hcon, -, hcancel, hrst, hack, hnak⟩ := hu
  simp [State.select, hcon, hcancel, hrst, hack, hnak, hre, pickReData_eq hre hk]

/-- A session between two frames of a retransmission: the outstanding frames are those of `reTxQueue`, and the mode
lasts until `frmReTx` has come to `frmTx` (R26, R206). -/
structure State.Resending (s : State) : Prop extends s.NothingUrgent where
  sendState : s.sendState = .idle
  txKind : s.txKind = .none
  length : s.reTxQueue.length = dist8 s.ackRx s.frmTx
  within : dist8 s.ackRx s.frmReTx ≤ dist8 s.ackRx s.frmTx
  mode : s.retransmit = decide (s.frmReTx ≠ s.frmTx)

/-- The handles of the frames from `frmReTx` to before `frmTx` (R165). -/
def State.toResend (s : State) : List Nat := s.reTxQueue.drop (dist8 s.ackRx s.frmReTx)

/-- The bytes of the frames from `frmReTx` to before `frmTx` (R206). -/
def State.resendWires (s : State) : List Byte := reDataWires s.txBuffers.read s.frmRx s.frmReTx s.toResend

/-- Frame `frmReTx` of handle `k` sent again, whole (R206, R209). -/
def State.resentOne (k : Nat) (s : State) : State :=
  { s with
    frmReTx := s.frmReTx + 1
    retransmit := decide (s.frmReTx + 1 ≠ s.frmTx)
    ackTx := s.frmRx
    resp := { s.resp with
      out := s.resp.out ++ encodeFrame (dataControl s.frmReTx true s.frmRx) (s.txBuffers.read k) } }

/-- All the frames from `frmReTx` to before `frmTx` sent again, which ends the mode (R206). -/
def State.allResent (s : State) : State :=
  { s with
    frmReTx := s.frmTx
    retransmit := false
    ackTx := s.frmRx
    resp := { s.resp with out := s.resp.out ++ s.resendWires } }

/-- Frame numbers short of the window's end are counted one by one (R13). -/
theorem dist8_succ {a x b : Seq} (h : dist8 a x < dist8 a b) : dist8 a (x + 1) = dist8 a x + 1 := by
  unfold dist8 at *
  bv_omega

theorem dist8_inj {a x b : Seq} (h : dist8 a x = dist8 a b) : x = b := by
  unfold dist8 at h
  bv_omega

/-- `t` is `s` after the output `bytes`, where the send machine may be anywhere in the retransmission (R206). -/
def State.ResentPart (bytes : List Byte) (s t : State) : Prop :=
  ∃ frmReTx retransmit ackTx txFrame txKind sendState, t = { s with
    frmReTx := frmReTx
    retransmit := retransmit
    ackTx := ackTx
    txFrame := txFrame
    txKind := txKind
    sendState := sendState
    resp := { s.resp with out := s.resp.out ++ bytes } }

theorem resentPart_nil (s : State) : s.ResentPart [] s :=
  ⟨_, _, _, _, _, _, by rw [List.append_nil]⟩

theorem resentPart_resentOne {k : Nat} {bytes : List Byte} (h : (s.resentOne k).ResentPart bytes t) :
    s.ResentPart ((s.reDataPicked k).txFrame ++ bytes) t := by
  rw [State.ResentPart, ← List.append_assoc]
  exact h

theorem update_resend_self {r a : Seq} {b : Bool} (hr : s.frmReTx = r) (hb : s.retransmit = b) (ha : s.ackTx = a) :
    { s with frmReTx := r, retransmit := b, ackTx := a } = s := by
  subst hr hb ha
  rfl

theorem resendWires_nil (h : s.toResend = []) : s.resendWires = [] := by
  rw [State.resendWires, h, reDataWires]

namespace State.Resending

theorem toResend_ne_nil (h : s.Resending) (hre : s.retransmit = true) : s.toResend ≠ [] := by
  have hne : s.frmReTx ≠ s.frmTx := by simpa [h.mode] using hre
  have hdist : dist8 s.ackRx s.frmReTx ≠ dist8 s.ackRx s.frmTx := fun he => hne (dist8_inj he)
  have hlength := h.length
  have hwithin := h.within
  rw [State.toResend, ne_eq, List.drop_eq_nil_iff]
  omega

section

variable {k : Nat} {ks : List Nat}

theorem dist8_lt (h : s.Resending) (hk : s.toResend = k :: ks) :
    dist8 s.ackRx s.frmReTx < dist8 s.ackRx s.frmTx := by
  have hlen := congrArg List.length hk
  rw [State.toResend, List.length_drop, List.length_cons, h.length] at hlen
  omega

theorem retransmit_eq (h : s.Resending) (hk : s.toResend = k :: ks) : s.retransmit = true := by
  rw [h.mode, decide_eq_true_iff]
  intro heq
  have hlt := h.dist8_lt hk
  rw [heq] at hlt
  exact lt_irrefl _ hlt

theorem select_eq (h : s.Resending) (hk : s.toResend = k :: ks) :
    s.select now = .ok (.picked (s.reDataPicked k)) := by
  refine select_reData h.toNothingUrgent (h.retransmit_eq hk) ?_
  have hhead := congrArg (·[0]?) hk
  simpa [State.toResend] using hhead

/-- A frame sent again leaves the ones after it to be sent again. -/
theorem resentOne (h : s.Resending) (hk : s.toResend = k :: ks) :
    (s.resentOne k).Resending ∧ (s.resentOne k).toResend = ks := by
  have hlt := h.dist8_lt hk
  have hsucc : dist8 s.ackRx (s.frmReTx + 1) = dist8 s.ackRx s.frmReTx + 1 := dist8_succ hlt
  refine ⟨⟨⟨h.connected, h.txFrame, h.cancel, h.rst, h.ack, h.nak⟩, h.sendState, h.txKind, h.length, ?_, rfl⟩, ?_⟩
  · exact hsucc.trans_le hlt
  · have htail := congrArg List.tail hk
    rw [State.toResend, List.tail_drop] at htail
    exact (congrArg (s.reTxQueue.drop ·) hsucc).trans htail

theorem resendWires_eq (h : s.Resending) (hk : s.toResend = k :: ks) : s.resendWires =
    (s.reDataPicked k).txFrame ++ (s.resentOne k).resendWires := by
  rw [State.resendWires, hk, reDataWires, State.resendWires, (h.resentOne hk).2]
  rfl

theorem sendLoop_pick (h : s.Resending) (hk : s.toResend = k :: ks) (hpos : 0 < n) :
    s.sendLoop now n = (s.reDataPicked k).sendLoop now n := by
  rw [← Nat.sub_add_cancel hpos]
  exact sendLoop_picked h.txFrame (h.select_eq hk) (encodeFrame_ne_nil _ _)

/-- A budget that reaches the end of the next frame goes on after it. -/
theorem sendLoop_resentOne (h : s.Resending) (hk : s.toResend = k :: ks) (m : Nat) :
    s.sendLoop now ((s.reDataPicked k).txFrame.length + m) = (s.resentOne k).sendLoop now m := by
  have hne : (s.reDataPicked k).txFrame ≠ [] := encodeFrame_ne_nil _ _
  rw [h.sendLoop_pick hk (Nat.add_pos_left (List.length_pos_iff.2 hne) m), sendLoop_through hne]
  have hkind : (TxKind.redata == TxKind.rst) = false := rfl
  simp only [State.reDataPicked, State.resentOne, hkind, Bool.or_false, h.sendState, h.txKind, h.txFrame]

end

/-- With nothing to send again the mode has ended. -/
theorem done (h : s.Resending) (hnil : s.toResend = []) : s.retransmit = false ∧ s.frmReTx = s.frmTx := by
  have hre : s.retransmit = false := Bool.eq_false_iff.2 fun hre => h.toResend_ne_nil hre hnil
  exact ⟨hre, by simpa [hre] using h.mode⟩

/-- All the frames are sent again, one after another. -/
theorem sendLoop_allResent (h : s.Resending) (hs : s.retransmit = true ∨ s.ackTx = s.frmRx) (m : Nat) :
    s.sendLoop now (s.resendWires.length + m) = s.allResent.sendLoop now m := by
  generalize hks : s.toResend = ks
  induction ks generalizing s with
  | nil =>
    obtain ⟨hre, hseq⟩ := h.done hks
    have hack : s.ackTx = s.frmRx := hs.resolve_left (by simp [hre])
    have hwires := resendWires_nil hks
    have hself : s.allResent = s := by
      rw [State.allResent, hwires, List.append_nil]
      exact update_resend_self hseq hre hack
    rw [hself, hwires, List.length_nil, Nat.zero_add]
  | cons k ks ih =>
    obtain ⟨hnext, htail⟩ := h.resentOne hks
    have hwires := h.resendWires_eq hks
    rw [hwires, List.length_append, Nat.add_assoc, h.sendLoop_resentOne hks, ih hnext (.inr rfl) htail]
    simp [State.allResent, State.resentOne, State.reDataPicked, hwires]

/-- A budget of exactly all the frames, or of more with no fresh DATA waiting, sends just these (R206, R208). -/
theorem sendLoop_justResent (h : s.Resending) (hre : s.retransmit = true)
    (hn : n = s.resendWires.length ∨ (s.txQueue = [] ∧ s.resendWires.length ≤ n)) :
    s.sendLoop now n = .ok s.allResent := by
  obtain ⟨m, rfl⟩ := Nat.exists_eq_add_of_le (hn.elim (·.ge) (·.2))
  rw [h.sendLoop_allResent (.inl hre)]
  rcases hn with heq | ⟨hqueue, -⟩
  · obtain rfl : m = 0 := by omega
    rfl
  · have hnothing : s.allResent.NothingToSend := ⟨h.cancel, h.rst, .inr ⟨h.ack, h.nak, rfl, .inr hqueue⟩⟩
    exact sendLoop_nothing h.txFrame (select_of_nothingToSend hnothing)

/-- A budget of at most all the frames sends the first bytes of them. -/
theorem sendLoop_resentPart (h : s.Resending) (hn : n ≤ s.resendWires.length) :
    ∃ t, s.sendLoop now n = .ok t ∧ s.ResentPart (s.resendWires.take n) t := by
  generalize hks : s.toResend = ks
  induction ks generalizing s n with
  | nil =>
    have hwires := resendWires_nil hks
    obtain rfl : n = 0 := by simpa [hwires] using hn
    exact ⟨s, rfl, resentPart_nil s⟩
  | cons k ks ih =>
    obtain ⟨hnext, htail⟩ := h.resentOne hks
    rw [h.resendWires_eq hks] at hn ⊢
    rcases Nat.le_total n (s.reDataPicked k).txFrame.length with hle | hge
    · rw [List.take_append_of_le_length hle]
      rcases Nat.eq_zero_or_pos n with rfl | hpos
      · exact ⟨s, rfl, resentPart_nil s⟩
      · have hkind : ((s.reDataPicked k).txKind == TxKind.rst) = false := rfl
        refine ⟨_, (h.sendLoop_pick hks hpos).trans (sendLoop_upto (encodeFrame_ne_nil _ _) hle), ?_⟩
        rw [hkind, Bool.and_false, Bool.or_false]
        exact ⟨_, _, _, _, _, _, rfl⟩
    · obtain ⟨m, rfl⟩ := Nat.exists_eq_add_of_le hge
      rw [List.length_append, Nat.add_le_add_iff_left] at hn
      obtain ⟨t, hloop, ht⟩ := ih hnext hn htail
      refine ⟨t, (h.sendLoop_resentOne hks m).trans hloop, ?_⟩
      rw [List.take_length_add_append]
      exact resentPart_resentOne ht

end State.Resending

/-- In retransmission mode a state of the invariant is between two frames when none is in progress. -/
theorem resending_of_inv (hi : s.Inv) (hu : s.NothingUrgent) (hre : s.retransmit = true) : s.Resending := by
  obtain ⟨hlength, -, hwithin, hmode, -⟩ := hi.sequence hu.connected
  obtain ⟨hstate, hkind, -⟩ := hi.send
  refine ⟨hu, hstate.2 hu.txFrame, hkind.2 hu.txFrame, hlength, (within_iff _ _ _).1 hwithin, ?_⟩
  rw [hre, decide_eq_true (hmode hre)]

/-- In retransmission mode frames are outstanding, so in a state of the invariant the ACK timer runs (R26). -/
theorem ackTimer_running_of_inv (hi : s.Inv) (hcon : s.connected = true) (hre : s.retransmit = true) :
    s.ackTimer.running = true := by
  obtain ⟨-, -, hwithin, hmode, hrunning⟩ := hi.sequence hcon
  refine hrunning.2 fun hseq => hmode hre (dist8_inj (a := s.ackRx) ?_)
  have hle := (within_iff _ _ _).1 hwithin
  have hzero : dist8 s.ackRx s.frmTx = 0 := by simp [hseq, dist8]
  omega

end

/-! ### The obligations -/

/-- Settles O40: nothing is found to send, and on a quiescent block the level rule does nothing either. -/
theorem quiescentTickChangesNothing : Obligations.QuiescentTickChangesNothing := by
  refine ⟨fun s now space hl hn hq hre => ?_, fun s now space hl hn hframe hcancel hrst hack hnak hre hqueue =>
    exec_tick_nothing hl hn hframe ⟨hcancel, hrst, .inr ⟨hack, hnak, hre, hqueue.symm⟩⟩⟩
  obtain ⟨⟨⟨⟨⟨⟨⟨-, hframe⟩, hqueue⟩, hseq⟩, hcancel⟩, hrst⟩, hack⟩, hnak⟩ := by simpa [State.quiescent] using hq
  have hnothing : s.NothingToSend := ⟨hcancel, hrst, .inr ⟨hack, hnak, hre, .inr hqueue⟩⟩
  rw [exec_tick_nothing hl hn hframe hnothing, levelled_of_none_outstanding hseq]

/-- Settles O38: the expiry is first turned into a pending ACK, after which no timer is due. -/
theorem tickSendsPendingNakOrAck : Obligations.TickSendsPendingNakOrAck := by
  refine ⟨fun s now space due wire hl hcon hstart hack hframe hcancel hrst hdue hask hwire hpos hspace => ?_,
    fun s now space => exec_tick_refreshExpired⟩
  subst hwire
  cases due with
  | false =>
    have hn : s.noTimerDue now := by
      refine ⟨hstart, fun _ => hack, fun _ hr => ?_⟩
      simpa [hr] using hdue
    rw [exec_tick_ack hl hn hcon hframe hcancel hrst (by simpa using hask) hpos hspace]
    simp only [Bool.or_false, Bool.not_false, Bool.and_true]
    rfl
  | true =>
    obtain ⟨hr, hexpired⟩ : s.nrTimer.running = true ∧ s.cfg.nrRefresh ≤ elapsed now s.nrTimer.start := by
      simpa using hdue.symm
    rw [exec_tick_refreshExpired hl hcon hstart hack hr hexpired]
    have hn : s.refreshExpired.noTimerDue now := ⟨hstart, fun _ => hack, fun _ h => (Bool.false_ne_true h).elim⟩
    rw [exec_tick_ack (s := s.refreshExpired) hl hn hcon hframe hcancel hrst (.inr rfl) hpos hspace]
    simp only [Bool.or_true, Bool.not_true, Bool.and_false]
    rfl

/-- Settles O39: the first frame is the frame picked next; the others follow by induction on the handles left to
resend. -/
theorem tickResendsAllOutstanding : Obligations.TickResendsAllOutstanding := by
  refine ⟨?_, ?_⟩
  · intro s now space k wire hl hcon hn hframe hcancel hrst hack hnak hre hk hwire hpos hspace
    subst hwire
    have hselect : s.beginResponse.select now = .ok (.picked (s.beginResponse.reDataPicked k)) :=
      select_reData ⟨hcon, hframe, hcancel, hrst, hack, hnak⟩ hre hk
    exact exec_tick_picked hl hn hframe hselect (encodeFrame_ne_nil _ _) TxKind.noConfusion hl.2 rfl hpos hspace
  · intro s now space wires hi hl hcon hn hframe hcancel hrst hack hnak hre hwires
    obtain rfl : wires = s.resendWires := hwires
    have hs : s.Resending := resending_of_inv hi ⟨hcon, hframe, hcancel, hrst, hack, hnak⟩ hre
    have hb : s.beginResponse.Resending :=
      ⟨⟨hcon, hframe, hcancel, hrst, hack, hnak⟩, hs.sendState, hs.txKind, hs.length, hs.within, hs.mode⟩
    have hrunning := ackTimer_running_of_inv hi hcon hre
    refine ⟨fun hspace => ?_, fun hspace => ?_⟩
    · obtain ⟨t, hloop, ht⟩ := hb.sendLoop_resentPart hspace
      obtain ⟨_, _, _, _, _, _, rfl⟩ := ht
      exact ⟨_, exec_tick_of_sendLoop hl hn hloop hl.2, rfl, rfl, rfl, rfl, rfl, rfl, rfl, levelled_of_running hrunning⟩
    · have hloop : s.beginResponse.sendLoop now space.toNat = .ok s.beginResponse.allResent :=
        hb.sendLoop_justResent hre hspace
      have hlevel : s.beginResponse.allResent.levelled now = s.ackTimer := levelled_of_running hrunning
      rw [exec_tick_of_sendLoop hl hn hloop hl.2, hlevel]
      rfl

end Sys2Proof.Machine
end

section
/-!
SUPPORT. The tick with a frame in progress, and its budget split in two (44_send.md R200, R201, R209): at one time the
second of two ticks finds no timer due, and the loop goes on where the first one left it.
-/

namespace Sys2Proof.Machine

section

variable {s t u : State} {now : Time} {space : Space} {n : Nat}

/-! ### The loop in two parts (R200) -/

/-- A budget of `m + n` is `m` and then `n`. -/
theorem sendLoop_add (now : Time) (m n : Nat) (s : State) :
    s.sendLoop now (m + n) = (s.sendLoop now m).bind (State.sendLoop now n) := by
  induction m generalizing s with
  | zero => rw [Nat.zero_add]; rfl
  | succ m ih =>
    rw [Nat.succ_add, sendLoop_succ, sendLoop_succ]
    split
    · next hframe =>
      cases hselect : s.select now with
      | error e => rfl
      | ok x =>
        cases x with
        | nothing => exact (sendLoop_nothing hframe hselect).symm
        | cancel t => exact ih t
        | picked t => exact ih t.emitNext
    · exact ih s.emitNext

/-! ### The loop does not look at the ACK timer (R235) -/

/-- The state with another ACK timer. -/
def State.setAckTimer (x : Timer) (s : State) : State := { s with ackTimer := x }

theorem select_setAckTimer (x : Timer) (now : Time) :
    Function.Semiconj (State.select now) (State.setAckTimer x) (Except.map (Selected.map (State.setAckTimer x))) := by
  have hack (s : State) : Except.ok (ε := Fault) (Selected.picked ((s.setAckTimer x).pickAck now)) =
      .ok (.picked ((s.pickAck now).setAckTimer x)) := by simp only [pickAck_eq]; rfl
  refine semiconj_ite (fun _ => .rfl) (fun _ => rfl) (semiconj_ite (fun _ => .rfl) (fun _ => rfl)
    (semiconj_ite (fun _ => .rfl) hack (semiconj_ite (fun _ => .rfl) (fun s => ?redata)
      (semiconj_ite (fun _ => .rfl) (fun s => ?data) (fun _ => rfl)))))
  case redata =>
    have hlookup : peekNth (s.setAckTimer x).reTxQueue (dist8 (s.setAckTimer x).ackRx (s.setAckTimer x).frmReTx) =
      peekNth s.reTxQueue (dist8 s.ackRx s.frmReTx) := rfl
    simp only [State.pickReData, hlookup]
    cases peekNth s.reTxQueue (dist8 s.ackRx s.frmReTx) <;> rfl
  case data =>
    have hqueue : (s.setAckTimer x).txQueue = s.txQueue := rfl
    simp only [hqueue]
    cases s.txQueue <;> rfl

theorem emitNext_setAckTimer (x : Timer) (s : State) : (s.setAckTimer x).emitNext = s.emitNext.setAckTimer x := by
  match hf : s.txFrame with
  | [] => simp only [State.emitNext, hf, show (s.setAckTimer x).txFrame = [] from hf]
  | [b] => rw [emitNext_last s hf, emitNext_last (s.setAckTimer x) hf]; rfl
  | b :: c :: rest => rw [emitNext_cons s hf, emitNext_cons (s.setAckTimer x) hf]; rfl

theorem sendLoop_setAckTimer (x : Timer) (now : Time) (n : Nat) (s : State) :
    (s.setAckTimer x).sendLoop now n = (s.sendLoop now n).map (State.setAckTimer x) := by
  induction n generalizing s with
  | zero => rfl
  | succ n ih =>
    have hframe : (s.setAckTimer x).txFrame = s.txFrame := rfl
    rw [sendLoop_succ, sendLoop_succ, hframe]
    split
    · rw [select_setAckTimer x now s]
      cases s.select now with
      | error e => rfl
      | ok y =>
        cases y with
        | nothing => rfl
        | cancel t => exact ih t
        | picked t => exact (congrArg (State.sendLoop now n) (emitNext_setAckTimer x t)).trans (ih t.emitNext)
    · rw [emitNext_setAckTimer, ih]

/-! ### A tick past its timer checks (R200) -/

/-- The timers' periods are above 0, so that none is due when it starts, and the window is shorter than the sequence
of frame numbers (R9, R32). -/
structure State.Paced (s : State) : Prop where
  period : 0 < s.ackPeriod.toNat
  refresh : 0 < s.cfg.nrRefresh
  window : s.cfg.txK ≤ 7

/-- A live block on which no timer is due at `now`. -/
structure State.TickReady (now : Time) (s : State) : Prop extends s.Paced where
  live : s.live
  due : s.noTimerDue now

/-- What the loop keeps of the state `s` it starts from: with the timers, that frames are outstanding. -/
structure State.LoopFrom (now : Time) (s t : State) : Prop extends t.TickReady now where
  connected : t.connected = s.connected
  ackTimer : t.ackTimer = s.ackTimer
  outstanding : s.ackRx ≠ s.frmTx → t.ackRx ≠ t.frmTx

theorem State.LoopFrom.refl (h : s.TickReady now) : s.LoopFrom now s := ⟨h, rfl, rfl, id⟩

theorem State.LoopFrom.emitNext (h : s.LoopFrom now t) : s.LoopFrom now t.emitNext := by
  unfold State.emitNext
  split <;>
    exact ⟨⟨⟨h.period, h.refresh, h.window⟩, h.live, h.due⟩, h.connected, h.ackTimer, h.outstanding⟩

/-- A refresh timer started at `now` is not due at `now` (R241). -/
theorem State.LoopFrom.pickAck (h : s.LoopFrom now t) : s.LoopFrom now (t.pickAck now) := by
  obtain ⟨hstart, hack, hrefresh⟩ := h.due
  rw [pickAck_eq]
  refine ⟨⟨⟨h.period, h.refresh, h.window⟩, h.live, hstart, hack, fun hcon hr => ?_⟩, h.connected, h.ackTimer,
    h.outstanding⟩
  dsimp only at hr ⊢
  split
  · exact (elapsed_self now).trans_lt h.refresh
  · next hnot =>
    rw [if_neg hnot] at hr
    exact hrefresh hcon hr

/-- Whatever is selected, it keeps this, and a picked frame is not empty (R121, R202). -/
theorem State.LoopFrom.select {x : Selected} (h : s.LoopFrom now t) (hx : t.select now = .ok x) :
    x = .nothing ∨ (∃ v, x = .cancel v ∧ s.LoopFrom now v) ∨
      ∃ v, x = .picked v ∧ s.LoopFrom now v ∧ v.txFrame ≠ [] := by
  rcases select_cases hx with ⟨-, rfl⟩ | ⟨-, -, rfl⟩ | ⟨-, -, -, -, rfl⟩ | ⟨-, -, -, -, -, -, k, v, -, -, rfl, rfl⟩ |
    ⟨-, -, -, -, -, -, hwindow, k, rest, -, rfl⟩ | ⟨-, -, -, rfl⟩
  case inl =>
    exact .inr (.inl ⟨_, rfl, ⟨⟨h.period, h.refresh, h.window⟩, h.live, h.due⟩, h.connected, h.ackTimer, h.outstanding⟩)
  case inr.inl =>
    exact .inr (.inr ⟨_, rfl,
      ⟨⟨⟨h.period, h.refresh, h.window⟩, h.live, h.due⟩, h.connected, h.ackTimer, h.outstanding⟩,
      encodeFrame_ne_nil _ _⟩)
  case inr.inr.inl =>
    refine .inr (.inr ⟨_, rfl, h.pickAck, ?_⟩)
    rw [pickAck_eq]
    exact encodeFrame_ne_nil _ _
  case inr.inr.inr.inl =>
    exact .inr (.inr ⟨_, rfl,
      ⟨⟨⟨h.period, h.refresh, h.window⟩, h.live, h.due⟩, h.connected, h.ackTimer, h.outstanding⟩,
      encodeFrame_ne_nil _ _⟩)
  case inr.inr.inr.inr.inl =>
    exact .inr (.inr ⟨_, rfl, ⟨⟨⟨h.period, h.refresh, h.window⟩, h.live, h.due⟩, h.connected, h.ackTimer,
      fun _ => ackRx_ne_succ_frmTx (hwindow.trans_le h.window)⟩, encodeFrame_ne_nil _ _⟩)
  case inr.inr.inr.inr.inr => exact .inl rfl

theorem State.TickReady.sendLoop (h : s.TickReady now) (ht : s.sendLoop now n = .ok t) : s.LoopFrom now t := by
  refine sendLoop_preserves (s.LoopFrom now) (fun x hx _ => hx.emitNext) (fun x y hx _ hy => ?cancel)
    (fun x y hx _ hy => ?pick) (.refl h) ht
  case cancel =>
    obtain hy | ⟨_, hy, hv⟩ | ⟨_, hy, -⟩ := hx.select hy <;> cases hy
    exact hv
  case pick =>
    obtain hy | ⟨_, hy, -⟩ | ⟨_, hy, hv⟩ := hx.select hy <;> cases hy
    exact hv

/-! ### The level rule between two ticks (R235) -/

/-- An ACK timer started at `now` is not due at `now`. -/
theorem State.TickReady.levelled (h : s.TickReady now) : (s.setAckTimer (s.levelled now)).TickReady now := by
  obtain ⟨hstart, hack, hrefresh⟩ := h.due
  refine ⟨⟨h.period, h.refresh, h.window⟩, h.live, hstart, fun hcon hr => ?_, hrefresh⟩
  unfold State.setAckTimer State.levelled at hr ⊢
  dsimp only at hr ⊢
  split
  · exact (elapsed_self now).trans_lt h.period
  · next hnot =>
    rw [if_neg hnot] at hr
    exact hack hcon hr

/-- The level rule taken before the loop as well as after it does what it does after it alone: frames that are
outstanding before are so afterwards. -/
theorem State.LoopFrom.levelled_setAckTimer (h : s.LoopFrom now t) :
    (t.setAckTimer (s.levelled now)).levelled now = t.levelled now := by
  by_cases hlevel : (s.connected && s.ackRx != s.frmTx && !s.ackTimer.running) = true
  · have hs : s.levelled now = { running := true, start := now } := if_pos hlevel
    simp only [Bool.and_eq_true, bne_iff_ne, Bool.not_eq_true'] at hlevel
    obtain ⟨⟨hcon, hout⟩, hr⟩ := hlevel
    rw [hs, levelled_of_running rfl,
      levelled_of_outstanding (h.connected.trans hcon) (h.outstanding hout), h.ackTimer, hr]
    rfl
  · have hs : s.levelled now = s.ackTimer := if_neg hlevel
    rw [hs, ← h.ackTimer]
    rfl

/-! ### The tick in two parts (R200) -/

theorem sendFrames_ok_iff : s.sendFrames now space = .ok t ↔
    ∃ x, s.sendLoop now space.toNat = .ok x ∧ x.setAckTimer (x.levelled now) = t := by
  unfold State.sendFrames
  cases s.sendLoop now space.toNat with
  | error e => simp
  | ok x => simp [ackTimerLevel_eq, State.setAckTimer]

theorem State.TickReady.sendFrames (h : s.TickReady now) (ht : s.sendFrames now space = .ok t) : t.TickReady now := by
  obtain ⟨x, hx, rfl⟩ := sendFrames_ok_iff.1 ht
  exact (h.sendLoop hx).levelled

theorem sendFrames_split {a b : Space} (h : s.TickReady now) (hspace : space.toNat = a.toNat + b.toNat)
    (ht : s.sendFrames now a = .ok t) (hu : t.sendFrames now b = .ok u) :
    s.sendFrames now space = .ok u := by
  obtain ⟨x, hx, rfl⟩ := sendFrames_ok_iff.1 ht
  obtain ⟨z, hz, rfl⟩ := sendFrames_ok_iff.1 hu
  rw [sendLoop_setAckTimer] at hz
  cases hy : x.sendLoop now b.toNat with
  | error e => simp [hy, Except.map] at hz
  | ok y =>
    rw [hy] at hz
    obtain rfl : y.setAckTimer (x.levelled now) = z := Except.ok.inj hz
    refine sendFrames_ok_iff.2 ⟨y, ?_, ?_⟩
    · rw [hspace, sendLoop_add, hx]
      exact hy
    · rw [((h.sendLoop hx).sendLoop hy).levelled_setAckTimer]
      rfl

/-! ### The timer checks of the tick (R236, R240, R293) -/

/-- A start timeout is fatal, or none is due (R240). -/
theorem startTimeoutCheck_cases (now : Time) (hl : s.live) :
    ((s.startTimeoutCheck now).active = true ∧ (s.startTimeoutCheck now).fatalStatus ≠ .none) ∨
      (s.startTimeoutCheck now = s ∧ (s.startPending = true → elapsed now s.startTime < 2500)) := by
  obtain ⟨hactive, hlatch⟩ := hl
  by_cases hdue : s.startPending = true ∧ 2500 ≤ elapsed now s.startTime
  · have hcheck : s.startTimeoutCheck now = s.raiseFatal .hostFatalError .resetFail 0 := by
      simp [State.startTimeoutCheck, hdue, startTimeout]
    rw [hcheck, raiseFatal_clear s _ _ _ hlatch]
    exact .inl ⟨hactive, FatalStatus.noConfusion⟩
  · have hidle (hp : s.startPending = true) : elapsed now s.startTime < 2500 :=
      Nat.lt_of_not_le fun hle => hdue ⟨hp, hle⟩
    exact .inr ⟨startTimeoutCheck_idle s now hidle, hidle⟩

/-- An ACK timeout is fatal, or it restarts the timer, or none is due (R236). -/
theorem ackTimeoutCheck_cases (now : Time) (hl : s.live) :
    ((s.ackTimeoutCheck now).active = true ∧ (s.ackTimeoutCheck now).fatalStatus ≠ .none) ∨
      s.ackTimeoutCheck now = s.ackTimedOut now ∨
      (s.ackTimeoutCheck now = s ∧
        (s.connected = true → s.ackTimer.running = true → elapsed now s.ackTimer.start < s.ackPeriod.toNat)) := by
  obtain ⟨hactive, hlatch⟩ := hl
  unfold State.ackTimeoutCheck
  split
  · split
    · rw [raiseFatal_clear s.countTimeout _ _ _ hlatch]
      exact .inl ⟨hactive, FatalStatus.noConfusion⟩
    · exact .inr (.inl rfl)
  · next hnot =>
    refine .inr (.inr ⟨rfl, fun hcon hr => ?_⟩)
    simpa [Timer.expired, hcon, hr] using hnot

/-- After the refresh check the refresh timer is not due: it was not, or it has stopped (R293). -/
theorem tickReady_nrTimerCheck (hl : s.live) (hstart : s.startPending = true → elapsed now s.startTime < 2500)
    (hack : s.connected = true → s.ackTimer.running = true → elapsed now s.ackTimer.start < s.ackPeriod.toNat)
    (hp : s.Paced) :
    (s.nrTimerCheck now).TickReady now := by
  unfold State.nrTimerCheck
  split
  · exact ⟨⟨hp.period, hp.refresh, hp.window⟩, hl, hstart, hack, fun _ hr => (Bool.false_ne_true hr).elim⟩
  · next hnot =>
    refine ⟨hp, hl, hstart, hack, fun hcon hr => ?_⟩
    simpa [Timer.expired, hcon, hr] using hnot

/-- The timer checks of the tick latch a fatal error, or the tick goes on from a state on which no timer is due. -/
theorem sendExec_cases (now : Time) (hl : s.live) (hp : s.Paced) :
    (∃ f : State, (f.active = true ∧ f.fatalStatus ≠ .none) ∧ ∀ space, s.sendExec now space = .ok f) ∨
      ∃ r : State, r.TickReady now ∧ ∀ space, s.sendExec now space = r.sendFrames now space := by
  obtain ⟨hactive, hlatch⟩ := hl
  rcases startTimeoutCheck_cases now ⟨hactive, hlatch⟩ with hfatal | ⟨-, hstart⟩
  · exact .inl ⟨_, hfatal, fun space => by simp [State.sendExec, hactive, hlatch, hfatal.2]⟩
  rcases ackTimeoutCheck_cases now ⟨hactive, hlatch⟩ with hfatal | hcheck | ⟨hcheck, hack⟩
  · refine .inl ⟨_, hfatal, fun space => ?_⟩
    simp [State.sendExec, hactive, hlatch, startTimeoutCheck_idle s now hstart, hfatal.2]
  · have hpos := ackTimedOut_ackPeriod_pos s now hp.period
    refine .inr ⟨_, tickReady_nrTimerCheck (s := s.ackTimedOut now) ⟨hactive, hlatch⟩ hstart
      (fun _ _ => (elapsed_self now).trans_lt hpos) ⟨hpos, hp.refresh, hp.window⟩, fun space => ?_⟩
    exact sendExec_of_ackTimeoutCheck ⟨hactive, hlatch⟩ hstart hcheck hlatch
  · refine .inr ⟨_, tickReady_nrTimerCheck ⟨hactive, hlatch⟩ hstart hack hp, fun space => ?_⟩
    exact sendExec_of_ackTimeoutCheck ⟨hactive, hlatch⟩ hstart hcheck hlatch

theorem active_of_sendExec (ha : s.active = true) (hp : s.Paced) (ht : s.sendExec now space = .ok t) :
    t.active = true := by
  by_cases hl : s.live
  · rcases sendExec_cases now hl hp with ⟨f, ⟨hactive, -⟩, hs⟩ | ⟨r, hr, hs⟩
    · rw [hs, Except.ok.injEq] at ht
      exact ht ▸ hactive
    · rw [hs] at ht
      exact (hr.sendFrames ht).live.1
  · rw [sendExec_notLive s hl, Except.ok.injEq] at ht
    exact ht ▸ ha

/-- A tick with `a + b` is a tick with `a` and then one with `b` at the same time. -/
theorem sendExec_split {a b : Space} (hp : s.Paced) (hspace : space.toNat = a.toNat + b.toNat)
    (ht : s.sendExec now a = .ok t) (hu : t.sendExec now b = .ok u) : s.sendExec now space = .ok u := by
  by_cases hl : s.live
  · rcases sendExec_cases now hl hp with ⟨f, ⟨-, hlatch⟩, hs⟩ | ⟨r, hr, hs⟩
    · rw [hs, Except.ok.injEq] at ht
      subst ht
      rw [sendExec_notLive _ fun hl => hlatch hl.2] at hu
      exact (hs space).trans hu
    · rw [hs] at ht ⊢
      have hready := hr.sendFrames ht
      rw [sendExec_noTimerDue t hready.live hready.due] at hu
      exact sendFrames_split hr hspace ht hu
  · rw [sendExec_notLive s hl, Except.ok.injEq] at ht
    subst ht
    rw [sendExec_notLive _ hl] at hu
    exact (sendExec_notLive s hl).trans hu

/-! ### The response of the tick (R89, R176) -/

/-- The response with the output and the events of `r` before its own. -/
def Response.following (r : Response) (r' : Response) : Response :=
  { r' with out := r.out ++ r'.out, events := r.events ++ r'.events }

theorem sendExec_following (r : Response) (now : Time) (space : Space) (s : State) :
    (s.mapShell id (.following r)).sendExec now space =
      (s.sendExec now space).map (State.mapShell id (.following r)) :=
  shellFree_sendExec (fun r' es => by simp only [Response.following, List.append_assoc])
    (fun r' b => by simp only [Response.following, List.append_assoc]) now space s

/-- From the empty response the tick leaves one that holds nothing but output and events. -/
theorem sendExec_response (h : s.beginResponse.sendExec now space = .ok t) :
    t = t.beginResponse.mapShell id (.following t.resp) := by
  have hshell : t.mapShell id (fun r => { Response.empty with out := r.out, events := r.events }) = t :=
    mapShell_eq_of_ok (shellFree_sendExec (fun _ _ => rfl) (fun _ _ => rfl) now space) rfl h
  conv_lhs => rw [← hshell]
  simp [State.mapShell, State.beginResponse, Response.following, Response.empty]

/-- On an active block the TICK answers what `sendExec` does, with the status of the latch afterwards (R176, R307). -/
theorem exec_tick_of_sendExec (ha : s.active = true) (h : s.beginResponse.sendExec now space = .ok t) :
    exec (.tick now space) s = .next (t.respond t.fatalStatus.toStatus) := by
  by_cases hf : s.fatalStatus = .none
  · simp only [exec, execTick, whenLive_live s _ ⟨ha, hf⟩, ← beginResponse_eq, h, outcome_ok]
  · rw [sendExec_notLive s.beginResponse fun hl => hf hl.2, Except.ok.injEq] at h
    subst h
    exact congrArg Result.outcome (whenLive_fatal s _ ha hf)

theorem exec_tick_inactive (ha : s.active = false) :
    exec (.tick now space) s = .next { s with resp := Response.bare .notConnected } :=
  congrArg Result.outcome (whenLive_inactive s _ ha)

/-- A TICK with `a + b` is a TICK with `a` and then one with `b` at the same time. -/
theorem exec_tick_split {a b : Space} (hp : s.Paced) (hspace : space.toNat = a.toNat + b.toNat)
    (ht : exec (.tick now a) s = .next t) (hu : exec (.tick now b) t = .next u) :
    exec (.tick now space) s = .next { u with resp := t.resp.following u.resp } := by
  cases ha : s.active with
  | false =>
    obtain rfl := Host.Outcome.next.inj ((exec_tick_inactive ha).symm.trans ht)
    obtain rfl := Host.Outcome.next.inj ((exec_tick_inactive ha).symm.trans hu)
    exact exec_tick_inactive ha
  | true =>
    have hp' : s.beginResponse.Paced := ⟨hp.period, hp.refresh, hp.window⟩
    obtain ⟨t, hst, rfl⟩ := exec_tick_next ha ht
    have hactive : t.active = true := active_of_sendExec (s := s.beginResponse) ha hp' hst
    obtain ⟨u, htu, rfl⟩ := exec_tick_next (s := t.respond _) hactive hu
    have hon := sendExec_following t.resp now b t.beginResponse
    rw [← sendExec_response hst] at hon
    exact exec_tick_of_sendExec ha (sendExec_split hp' hspace hst (hon.trans (congrArg _ htu)))

/-! ### A frame in progress (R200, R201, R209) -/

/-- The frame in progress completed (R209). -/
def State.frameCompleted (s : State) : State :=
  { s with txFrame := [], txKind := .none, sendState := .idle, rstSent := s.rstSent || s.txKind == .rst }

theorem sendExec_past {left : Space} (hl : s.live) (hn : s.noTimerDue now) (hne : s.txFrame ≠ [])
    (hspace : space.toNat = s.txFrame.length + left.toNat) : s.sendExec now space =
      { s.frameCompleted with resp := { s.resp with out := s.resp.out ++ s.txFrame } }.sendExec now left := by
  rw [sendExec_noTimerDue s hl hn, sendExec_noTimerDue { s.frameCompleted with resp := _ } hl hn, State.sendFrames,
    hspace, sendLoop_through hne]
  rfl

/-- A budget that goes past the frame in progress is spent on after it. -/
theorem exec_tick_past {left : Space} (hl : s.live) (hn : s.noTimerDue now) (hne : s.txFrame ≠ [])
    (hspace : space.toNat = s.txFrame.length + left.toNat)
    (ht : exec (.tick now left) s.frameCompleted = .next t) :
    exec (.tick now space) s = .next { t with resp := { t.resp with out := s.txFrame ++ t.resp.out } } := by
  obtain ⟨u, hu, rfl⟩ := exec_tick_next (s := s.frameCompleted) hl.1 ht
  have hrest := sendExec_following { Response.empty with out := s.txFrame } now left s.frameCompleted.beginResponse
  have hempty : Response.following { Response.empty with out := s.txFrame } .empty =
      { Response.empty with out := s.txFrame } := by simp [Response.following, Response.empty]
  rw [hu, State.mapShell, beginResponse_resp, hempty] at hrest
  exact exec_tick_of_sendExec hl.1 ((sendExec_past (s := s.beginResponse) hl hn hne hspace).trans hrest)

/-- A budget of at most the frame in progress is spent on it. -/
theorem exec_tick_upto (hl : s.live) (hn : s.noTimerDue now) (hne : s.txFrame ≠ [])
    (hspace : space.toNat ≤ s.txFrame.length) :
    exec (.tick now space) s = .next { s with
      txFrame := s.txFrame.drop space.toNat
      txKind := if space.toNat < s.txFrame.length then s.txKind else .none
      sendState := if space.toNat < s.txFrame.length then s.sendState else .idle
      rstSent := s.rstSent || (decide (space.toNat = s.txFrame.length) && s.txKind == .rst)
      ackTimer := s.levelled now
      resp := { status := .success, out := s.txFrame.take space.toNat, events := [], value := .empty } } :=
  exec_tick_of_sendLoop hl hn (sendLoop_upto (s := s.beginResponse) hne hspace) hl.2

/-- A valid configuration has a refresh period above 0 (R8). -/
theorem nrRefresh_pos {c : Config} (hv : c.valid = true) : 0 < c.nrRefresh := by
  simp only [Config.valid, Bool.and_eq_true, decide_eq_true_eq] at hv
  omega

end

/-! ### The obligation -/

/-- Settles O37: the loop through the frame in progress, and the tick in two parts; the invariant keeps the timers'
periods above 0, so that a timer started by the first tick is not due at the second. -/
theorem tickEmitsFrameInProgress : Obligations.TickEmitsFrameInProgress := by
  refine ⟨fun s now space hl hn hne => ⟨exec_tick_upto hl hn hne, fun left t => exec_tick_past hl hn hne⟩, ?_⟩
  intro s t u now a b space hi hspace
  obtain ⟨hperiod, -⟩ := hi.timer
  exact exec_tick_split ⟨Nat.lt_of_lt_of_le (by decide) hperiod, nrRefresh_pos hi.valid, txK_le_seven hi.valid⟩ hspace

end Sys2Proof.Machine
end

section
/-!
SUPPORT. The two timer checks of the tick that latch a fatal error: the start timeout (45_timers.md R240) and the sixth
consecutive ACK timeout (45_timers.md R236).
-/

namespace Sys2Proof.Machine

section

variable {s t : State} {now : Time} {space : Space}

/-! ### A timer check that latches a fatal error (R200, R306) -/

/-- A start timeout on a clear latch (R240). -/
theorem startTimeoutCheck_due (hf : s.fatalStatus = .none) (hp : s.startPending = true)
    (he : 2500 ≤ elapsed now s.startTime) :
    s.startTimeoutCheck now = { s.fatalColumn .hostFatalError .resetFail 0 with
      resp := { s.resp with
        events := s.resp.events ++ [.fatal .hostFatalError .resetFail 0, .startDone .hostFatalError] } } := by
  have hdue : (s.startPending && decide (startTimeout ≤ elapsed now s.startTime)) = true := by
    simp [hp, he, startTimeout]
  rw [State.startTimeoutCheck, if_pos hdue, raiseFatal_clear s _ _ _ hf, State.fatalEvents, if_pos hp]
  rfl

/-- An expired ACK timer with five timeouts before it, on a clear latch and with no START waiting (R236). -/
theorem ackTimeoutCheck_sixth (hf : s.fatalStatus = .none) (hc : s.connected = true) (hp : s.startPending = false)
    (hr : s.ackTimer.running = true) (he : s.ackPeriod.toNat ≤ elapsed now s.ackTimer.start)
    (ht : s.timeouts.toNat = 5) :
    s.ackTimeoutCheck now = { s.countTimeout.fatalColumn .hostFatalError .timeouts 0 with
      resp := { s.resp with events := s.resp.events ++ [.fatal .hostFatalError .timeouts 0] } } := by
  have hdue : (s.connected && s.ackTimer.expired now s.ackPeriod.toNat) = true := by simp [Timer.expired, hc, hr, he]
  have hlast : maxTimeouts ≤ s.countTimeout.timeouts.toNat := by
    show 6 ≤ (s.timeouts + 1).toNat
    bv_omega
  have hevents : s.countTimeout.fatalEvents .hostFatalError .timeouts 0 = [.fatal .hostFatalError .timeouts 0] := by
    simp [State.fatalEvents, State.countTimeout, hp]
  rw [State.ackTimeoutCheck, if_pos hdue, if_pos hlast, raiseFatal_clear s.countTimeout _ _ _ hf, FatalStatus.toStatus,
    hevents]
  rfl

/-- A tick ends at a start timeout check that latches a fatal error. -/
theorem sendExec_of_fatal_startTimeoutCheck (hl : s.live) (ht : s.startTimeoutCheck now = t)
    (hf : t.fatalStatus ≠ .none) : s.sendExec now space = .ok t := by
  obtain ⟨hactive, hclear⟩ := hl
  simp [State.sendExec, hactive, hclear, ht, hf]

/-- A tick with no start timeout due ends at an ACK timeout check that latches a fatal error. -/
theorem sendExec_of_fatal_ackTimeoutCheck (hl : s.live)
    (hs : s.startPending = true → elapsed now s.startTime < 2500) (ht : s.ackTimeoutCheck now = t)
    (hf : t.fatalStatus ≠ .none) : s.sendExec now space = .ok t := by
  obtain ⟨hactive, hclear⟩ := hl
  simp [State.sendExec, hactive, hclear, startTimeoutCheck_idle s now hs, ht, hf]

end

/-! ### The obligations -/

/-- Settles O42: with five timeouts before it, the ACK timeout is counted and latches a fatal error, at which the tick
ends with no byte emitted. -/
theorem sixthTimeoutLatchesFatal : Obligations.SixthTimeoutLatchesFatal := by
  intro s now space hl hc hp hr he htimeouts
  have hsix : s.timeouts + 1 = 6 := by bv_omega
  have hcheck := ackTimeoutCheck_sixth (s := s.beginResponse) hl.2 hc hp hr he htimeouts
  have hidle (h : s.startPending = true) : elapsed now s.startTime < 2500 :=
    absurd (hp.symm.trans h) Bool.false_ne_true
  have hexec := exec_tick_of_sendExec hl.1
    (sendExec_of_fatal_ackTimeoutCheck (s := s.beginResponse) (space := space) hl hidle hcheck FatalStatus.noConfusion)
  rw [hexec, ← hsix]
  rfl

/-- Settles O43: the start timeout check latches a fatal error, which ends the START, and the tick ends there with no
byte emitted. -/
theorem startTimeoutLatchesFatal : Obligations.StartTimeoutLatchesFatal := by
  intro s now space hl hp he
  have hcheck := startTimeoutCheck_due (s := s.beginResponse) hl.2 hp he
  exact exec_tick_of_sendExec hl.1
    (sendExec_of_fatal_startTimeoutCheck (s := s.beginResponse) hl hcheck FatalStatus.noConfusion)

end Sys2Proof.Machine
end

section
/-!
SUPPORT. A frame in range received by a connected block, and the frames that need no session (46_receive.md R256 to
R271): what the receive machine makes of each, by the laws of `processAck`, `raiseFatal` and `connect`.
-/

namespace Sys2Proof.Machine

section

variable {s : State} {now : Time} {a : Seq}

/-! ### Ack numbers in range (R256, R257) -/

theorem dist8_eq_zero_iff (x y : Seq) : dist8 x y = 0 ↔ y = x := by
  unfold dist8
  bv_omega

/-- What a valid ack number leaves: nothing changes when it is the one recorded (R257). -/
def State.acked (a : Seq) (now : Time) (s : State) : State := if a = s.ackRx then s else s.ackColumn a now

/-- The ACK reads and writes nothing of the response. -/
theorem acked_beginResponse : (s.acked a now).beginResponse = s.beginResponse.acked a now := by
  unfold State.acked
  split
  · next h => exact (if_pos h).symm
  · next h => exact (if_neg h).symm

@[simp] theorem beginResponse_respond (st : Status) : (s.respond st).beginResponse = s.beginResponse := rfl

@[simp] theorem acked_fatalStatus : (s.acked a now).fatalStatus = s.fatalStatus := by
  unfold State.acked
  split <;> rfl

@[simp] theorem acked_connected : (s.acked a now).connected = s.connected := by
  unfold State.acked
  split <;> rfl

@[simp] theorem acked_active : (s.acked a now).active = s.active := by
  unfold State.acked
  split <;> rfl

@[simp] theorem acked_cfg : (s.acked a now).cfg = s.cfg := by
  unfold State.acked
  split <;> rfl

@[simp] theorem acked_ackRx : (s.acked a now).ackRx = a := by
  unfold State.acked
  split
  · next h => exact h.symm
  · rfl

/-- The ack number `a` can be taken by a connected block: it is in range, and the frames up to it are queued, each
buffer with one owner (R35, R256). -/
abbrev State.CanTakeAck (a : Seq) (s : State) : Prop :=
  s.connected = true ∧ s.ackValid a = true ∧ dist8 s.ackRx a ≤ s.reTxQueue.length ∧ s.txOwned

theorem processAck_acked (h : s.CanTakeAck a) : s.processAck a now = .ok (s.acked a now) := by
  obtain ⟨-, -, hqueued, howned⟩ := h
  exact processAck_eq (howned.nodup_iff.2 List.nodup_range) hqueued

/-! ### ACK and NAK (R259, R264) -/

theorem recvAck_ok (p n : Bool) (h : s.CanTakeAck a) :
    s.recvAck now p n a = .ok ({ s with peerNotReady := n }.acked a now) := by
  have hack := processAck_acked (s := { s with peerNotReady := n }) (now := now) h
  obtain ⟨hcon, hvalid, -⟩ := h
  rw [State.recvAck, if_neg (by simp [hcon]), if_neg (by simp [hvalid]), hack]

theorem recvNak_ok (p n : Bool) (h : s.CanTakeAck a) :
    s.recvNak now p n a = .ok ({ s with peerNotReady := n }.acked a now).nakFrame := by
  have hack := processAck_acked (s := { s with peerNotReady := n }) (now := now) h
  obtain ⟨hcon, hvalid, -⟩ := h
  rw [State.recvNak, if_neg (by simp [hcon]), if_neg (by simp [hvalid]), hack]

/-- A NAK starts retransmission from the oldest outstanding frame, unless one is in progress (R237, R264). -/
theorem nakFrame_eq : s.nakFrame =
    if s.retransmit = false ∧ s.ackRx ≠ s.frmTx then { s with retransmit := true, frmReTx := s.ackRx } else s := by
  simp [State.nakFrame, State.startRetransmit]

@[simp] theorem nakFrame_fatalStatus : s.nakFrame.fatalStatus = s.fatalStatus := by
  unfold State.nakFrame
  split <;> rfl

/-- An ACK in range on a live block (R257, R259). -/
theorem exec_ack_ok (p n : Bool) (hl : s.live) (h : s.CanTakeAck a) : exec (.ack now p n a) s =
    .next (({ s.beginResponse with peerNotReady := n }.acked a now).respond .success) :=
  outcome_whenLive_ok s hl (recvAck_ok (s := s.beginResponse) p n h) (acked_fatalStatus.trans hl.2)

/-- A NAK in range on a live block (R264). -/
theorem exec_nak_ok (p n : Bool) (hl : s.live) (h : s.CanTakeAck a) : exec (.nak now p n a) s =
    .next (({ s.beginResponse with peerNotReady := n }.acked a now).nakFrame.respond .success) :=
  outcome_whenLive_ok s hl (recvNak_ok (s := s.beginResponse) p n h)
    (nakFrame_fatalStatus.trans (acked_fatalStatus.trans hl.2))

/-! ### DATA (R260 to R263) -/

theorem recvData_ok (f : Seq) (r : Bool) (p : List Byte) (h : s.CanTakeAck a) :
    s.recvData now f r a p = .ok ((s.acked a now).dataFrame f r p) := by
  have hack := processAck_acked (now := now) h
  obtain ⟨hcon, hvalid, -⟩ := h
  simp [State.recvData, hcon, hvalid, hack]

/-- The ack number already recorded is in range and acknowledges nothing new (R256, R257). -/
theorem recvData_ackRx (f : Seq) (r : Bool) (p : List Byte) (hcon : s.connected = true) :
    s.recvData now f r s.ackRx p = .ok (s.dataFrame f r p) := by
  have hvalid : s.ackValid s.ackRx = true := by simp [State.ackValid, within, dist8]
  simp [State.recvData, hcon, hvalid, State.processAck]

theorem dataFrame_inSequence (r : Bool) (p : List Byte) : s.dataFrame s.frmRx r p = s.acceptData p := if_pos rfl

theorem dataFrame_duplicate {f : Seq} (p : List Byte) (hf : f ≠ s.frmRx) : s.dataFrame f true p = { s with
    counters := { s.counters with rxDuplicates := s.counters.rxDuplicates + 1 }
    ackPending := true } := if_neg hf

theorem dataFrame_outOfSequence {f : Seq} (p : List Byte) (hf : f ≠ s.frmRx) :
    s.dataFrame f false p = s.outOfSequence := if_neg hf

@[simp] theorem dataFrame_fatalStatus (f : Seq) (r : Bool) (p : List Byte) :
    (s.dataFrame f r p).fatalStatus = s.fatalStatus := by
  unfold State.dataFrame
  split
  · cases hfl : s.rxFreeList with
    | nil => rw [acceptData_nil s p hfl]
    | cons h fl => rw [acceptData_cons s p hfl]; rfl
  · split
    · rfl
    · rw [outOfSequence_eq]

/-- A DATA frame that acknowledges nothing new, on a live block in a session (R260). -/
theorem exec_data_ackRx {f : Seq} {r : Bool} {p : List Byte} (hl : s.live) (hcon : s.connected = true)
    (hmin : s.cfg.minDataLen ≤ p.length) (hmax : p.length ≤ s.cfg.maxDataLen) :
    exec (.data now f r s.ackRx p) s = .next ((s.beginResponse.dataFrame f r p).respond .success) :=
  exec_data_ok s hl hmin hmax (recvData_ackRx (s := s.beginResponse) f r p hcon)
    ((dataFrame_fatalStatus f r p).trans hl.2)

/-! ### The reject path (R254) -/

theorem rejIfData_of_not_connected (frame : List Byte) (hcon : s.connected = false) : s.rejIfData frame = s := by
  cases frame with
  | nil => rfl
  | cons c frame => simp [State.rejIfData, hcon]

/-! ### RSTACK and ERROR (R266 to R270) -/

/-- A frame that latches a fatal error on a live block (R306). -/
theorem exec_of_raiseFatal {status : FatalStatus} {code : FatalCode} {info : Byte} {body : State → Result}
    (hl : s.live) (hbody : body s.beginResponse = .ok (s.beginResponse.raiseFatal status code info)) :
    (s.beginResponse.whenLive body).outcome = .next { s.fatalColumn status code info with
      resp := { status := status.toStatus, out := [],
                events := s.fatalEvents status.toStatus code info, value := .empty } } := by
  rw [outcome_whenLive hl hbody, raiseFatal_clear s.beginResponse _ _ _ hl.2]
  rfl

/-- The awaited reply to the RST connects (R268 to R270). -/
theorem recvRstack_connect (hcon : s.connected = false) (hrst : s.rstSent = true) :
    s.recvRstack 2#8 0x0B#8 = s.connect := by
  simp [State.recvRstack, hcon, hrst, ashVersion, resetReasonSoftware]

end

/-! ### The obligations -/

/-- Settles O51: `acked` is the identity at distance 0, else the column of `processAck`. -/
theorem ackFrameAcknowledges : Obligations.AckFrameAcknowledges := by
  rintro s now p n a d hl hcon rfl hrange hqueued howned
  rw [exec_ack_ok p n hl ⟨hcon, (within_iff _ _ _).2 hrange, hqueued, howned⟩]
  by_cases ha : a = s.ackRx
  · have hd : dist8 s.ackRx a = 0 := (dist8_eq_zero_iff _ _).2 ha
    rw [if_pos hd, State.acked, if_pos (by exact ha)]
    rfl
  · have hd : dist8 s.ackRx a ≠ 0 := mt (dist8_eq_zero_iff _ _).1 ha
    rw [if_neg hd, State.acked, if_neg (by exact ha)]
    rfl

/-- Settles O52: the NAK goes on with `nakFrame` from what the ACK leaves. -/
theorem nakFrameRetransmits : Obligations.NakFrameRetransmits := by
  intro s now p n a hl hcon hrange hqueued howned
  have hack : s.CanTakeAck a := ⟨hcon, hrange, hqueued, howned⟩
  refine ⟨_, exec_ack_ok p n hl hack, ?_⟩
  rw [exec_nak_ok p n hl hack, nakFrame_eq, apply_ite (State.respond .success)]
  rfl

/-- Settles O53: the state the ACK leaves has the ackNum recorded, so there the same DATA frame acknowledges nothing. -/
theorem dataFrameCarriesAck : Obligations.DataFrameCarriesAck := by
  intro s now f r a p hl hcon hrange hqueued howned hmin hmax
  have hack : s.CanTakeAck a := ⟨hcon, hrange, hqueued, howned⟩
  have hdata : exec (.data now f r a p) s =
      .next (((s.beginResponse.acked a now).dataFrame f r p).respond .success) :=
    exec_data_ok s hl hmin hmax (recvData_ok (s := s.beginResponse) f r p hack) (by simp [hl.2])
  refine ⟨_, _, exec_ack_ok false s.peerNotReady hl hack, acked_ackRx, hdata, ?_⟩
  have hagain := exec_data_ackRx (s := (s.beginResponse.acked a now).respond .success) (now := now) (f := f) (r := r)
    (p := p) (by simpa [State.live] using hl) (by simpa using hcon) (by simpa using hmin) (by simpa using hmax)
  rw [respond_ackRx, acked_ackRx, beginResponse_respond, acked_beginResponse] at hagain
  exact hagain

/-- Settles O54: `acceptData` with and without a buffer at the front of the free-list. -/
theorem dataInSequenceIsAccepted : Obligations.DataInSequenceIsAccepted := by
  refine ⟨fun s now r p h fl hl hcon hmin hmax hfl => ?_, fun s now r p hl hcon hmin hmax hfl => ?_⟩
  · have hdata : s.beginResponse.dataFrame s.frmRx r p = _ :=
      (dataFrame_inSequence r p).trans (acceptData_cons s.beginResponse p hfl)
    rw [exec_data_ackRx hl hcon hmin hmax, hdata]
    rfl
  · have hdata : s.beginResponse.dataFrame s.frmRx r p = _ :=
      (dataFrame_inSequence r p).trans (acceptData_nil s.beginResponse p hfl)
    rw [exec_data_ackRx hl hcon hmin hmax, hdata]
    rfl

/-- Settles O55: a duplicate with rFlag, out of sequence without. -/
theorem dataNotInSequence : Obligations.DataNotInSequence := by
  intro s now f p hl hcon hmin hmax hf
  refine ⟨?_, ?_⟩
  · rw [exec_data_ackRx hl hcon hmin hmax, dataFrame_duplicate (s := s.beginResponse) p hf]
    rfl
  · rw [exec_data_ackRx hl hcon hmin hmax, dataFrame_outOfSequence (s := s.beginResponse) p hf, outOfSequence_eq]
    rfl

/-- Settles O57: an RST has no rule, and without a session neither have DATA, ACK, NAK and the reject path. -/
theorem framesIgnored : Obligations.FramesIgnored := by
  refine ⟨fun s hl => outcome_whenLive_ok s hl rfl hl.2, fun s now f r n b a p hl hcon hmin hmax => ⟨?_, ?_, ?_⟩,
    fun s frame hcon => ?_⟩
  · exact exec_data_ok s hl hmin hmax (t := s.beginResponse) (by simp [State.recvData, hcon]) hl.2
  · exact outcome_whenLive_ok s hl (t := s.beginResponse) (by simp [State.recvAck, hcon]) hl.2
  · exact outcome_whenLive_ok s hl (t := s.beginResponse) (by simp [State.recvNak, hcon]) hl.2
  · exact rejIfData_of_not_connected frame hcon

/-- Settles O58: the branches of `recvRstack`, each by the law of what it runs. -/
theorem rstackByConnectionAndVersion : Obligations.RstackByConnectionAndVersion := by
  intro s v r hl
  by_cases hcon : s.connected = true
  · rw [if_pos hcon]
    exact exec_of_raiseFatal hl (congrArg Except.ok (if_pos hcon))
  rw [if_neg hcon]
  by_cases hv : v ≠ 2#8
  · rw [if_pos hv]
    exact exec_of_raiseFatal hl (congrArg Except.ok ((if_neg hcon).trans (if_pos hv)))
  rw [if_neg hv]
  by_cases hr : r = 0x0B#8 ∧ s.rstSent = true
  · rw [if_pos hr]
    obtain ⟨rfl, hrst⟩ := hr
    obtain rfl := not_not.1 hv
    have hconnect := (recvRstack_connect (s := s.beginResponse) (eq_false_of_ne_true hcon) hrst).trans (connect_eq _)
    exact outcome_whenLive_ok s (body := fun s => .ok (s.recvRstack 2#8 0x0B#8)) hl (congrArg Except.ok hconnect) hl.2
  · rw [if_neg hr]
    exact outcome_whenLive_ok s hl (t := s.beginResponse)
      (congrArg Except.ok ((if_neg hcon).trans ((if_neg hv).trans (if_neg hr)))) hl.2

/-- Settles O59: the frame latches the fatal error whatever its version byte. -/
theorem errorFrameLatchesFatal : Obligations.ErrorFrameLatchesFatal :=
  fun _ _ _ hl => exec_of_raiseFatal hl rfl

end Sys2Proof.Machine
end

section
/-!
SUPPORT. The RSTACK chunk that ends the reset handshake (46_receive.md R268 to R270, 70_reset_and_hazards.md R333): what
the deframer and the decoder make of its bytes, and the tick after `connect`, which sends the initial ACK.
-/

namespace Sys2Proof.Machine

section

variable {s t : State} {now : Time} {space : Space}

/-! ### The chunk (R86, R141 to R143) -/

theorem crc16_rstack : crc16 [rstackControl, 2#8, 0x0B#8] = 0x0A52#16 := by
  simp [crc16, crcUpdate, crcShifts, crcShift, crcInit, crcPoly, rstackControl]

theorem rawFrameOf_rstack : rawFrameOf rstackControl [2#8, 0x0B#8] = [0xC1, 0x02, 0x0B, 0x0A, 0x52] := by
  rw [rawFrameOf, decodedFrame, crc16_rstack]
  decide

/-- The RSTACK of version 2 with the software-reset reason decodes under every configuration whose frames hold its five
decoded bytes (R130). -/
theorem decodeRaw_rstack {cfg : Config} (hlen : 5 ≤ cfg.maxFrameLen) :
    decodeRaw cfg [0xC1, 0x02, 0x0B, 0x0A, 0x52] false = .ok (.rstack 2#8 0x0B#8) := by
  have hframe : frameOf cfg rstackControl [2#8, 0x0B#8] = some (.rstack 2#8 0x0B#8) :=
    frameOf_control (now := 0) (f := .rstack 2#8 0x0B#8) (decide_eq_true hlen)
  rw [← rawFrameOf_rstack]
  simp only [decodeRaw, decodeFrame_rawFrameOf cfg rstackControl (data := [2#8, 0x0B#8]) hlen, hframe]

/-- The chunk is cut after its CANCEL, whatever was carried, and the FLAG closes one raw frame (R141, R142). -/
theorem deframe_rstack_chunk (hlen : 5 ≤ s.cfg.maxFrameLen) :
    s.deframe [0x1A, 0xC1, 0x02, 0x0B, 0x0A, 0x52, 0x7E] =
      ([([0xC1, 0x02, 0x0B, 0x0A, 0x52], false)], s.setDeframer .clear) := by
  have hcut := deframe_append_cancel s [] (b := [0xC1, 0x02, 0x0B, 0x0A, 0x52, 0x7E]) (by decide)
  have hone := deframe_flatMap_flag (s := s.setDeframer .clear) (raws := [[0xC1, 0x02, 0x0B, 0x0A, 0x52]]) (by decide)
    rfl rfl
  have hwhole : deliveredRaw s.cfg.rawMax [0xC1, 0x02, 0x0B, 0x0A, 0x52] = ([0xC1, 0x02, 0x0B, 0x0A, 0x52], false) := by
    have hmax : 5 ≤ s.cfg.rawMax := by unfold Config.rawMax; omega
    simp [deliveredRaw, List.take_of_length_le, hmax]
  calc s.deframe [0x1A, 0xC1, 0x02, 0x0B, 0x0A, 0x52, 0x7E]
    _ = (s.setDeframer .clear).deframe [0xC1, 0x02, 0x0B, 0x0A, 0x52, 0x7E] := hcut
    _ = ([deliveredRaw s.cfg.rawMax [0xC1, 0x02, 0x0B, 0x0A, 0x52]], s.setDeframer .clear) := hone
    _ = ([([0xC1, 0x02, 0x0B, 0x0A, 0x52], false)], s.setDeframer .clear) := by rw [hwhole]

/-! ### The tick that sends the initial ACK (R200, R205) -/

/-- A tick on an idle session with an ACK to send sends as much of it as its budget reaches, up to its end. -/
theorem sendExec_ack (hl : s.live) (hn : s.noTimerDue now) (hcon : s.connected = true) (hframe : s.txFrame = [])
    (hcancel : s.cancelPending = false) (hrst : s.rstPending = false) (hnak : s.nakPending = false)
    (hask : s.ackPending = true) (hpos : 0 < space.toNat) (hspace : space.toNat ≤ s.ackWire.length) :
    s.sendExec now space = .ok { s.ackSent now space.toNat with
      resp := { s.resp with out := s.resp.out ++ s.ackWire.take space.toNat } } := by
  have hpick := pickAck_eq (s := s) (now := now)
  have hwire : (s.pickAck now).txFrame = s.ackWire := by rw [hpick]
  have hne : (s.pickAck now).txFrame ≠ [] := by rw [hwire]; exact encodeFrame_ne_nil _ _
  have hloop : s.sendLoop now space.toNat = .ok ((s.pickAck now).frameSent space.toNat) := by
    rw [← sendLoop_frame hne (.inl (by rwa [hwire])), ← Nat.sub_add_cancel hpos]
    exact sendLoop_picked hframe (select_ack hcon hcancel hrst (.inr hask)) hne
  have hkind : (TxKind.ack == TxKind.rst) = false := rfl
  rw [sendExec_of_sendLoop hl hn hloop, hpick]
  simp only [State.frameSent, State.ackSent, hnak, hkind, Bool.false_eq_true, if_false, Bool.and_false, Bool.or_false]
  rfl

/-! ### RX_CHUNK in its parts (R175) -/

/-- RX_CHUNK on a live block deframes, receives and ticks; where that leaves the latch clear, the status is SUCCESS. -/
theorem exec_rxChunk_of_parts {u d : State} {chunk : List Byte} {frames : List (List Byte × Bool)} (hl : s.live)
    (hdeframe : s.beginResponse.deframe chunk = (frames, d)) (hreceive : d.receiveAll now frames = .ok u)
    (htick : u.sendExec now space = .ok t) (hf : t.fatalStatus = .none) :
    exec (.rxChunk now space chunk) s = .next (t.respond .success) :=
  outcome_whenLive_ok s hl (by simp only [hdeframe, hreceive, htick]) hf

/-- The RSTACK raw frame on a live block whose RST is out (R268 to R270). -/
theorem receiveAll_rstack (hlen : 5 ≤ s.cfg.maxFrameLen) (hf : s.fatalStatus = .none) (hcon : s.connected = false)
    (hrst : s.rstSent = true) :
    s.receiveAll now [([0xC1, 0x02, 0x0B, 0x0A, 0x52], false)] = .ok s.connect := by
  have hframe : s.receiveFrame [0xC1, 0x02, 0x0B, 0x0A, 0x52] false now = .ok s.connect := by
    simp only [State.receiveFrame, decodeRaw_rstack hlen, State.recvFrame, recvRstack_connect hcon hrst]
  simp only [State.receiveAll, hf, ne_eq, not_true_eq_false, if_false, hframe]

/-- The tick of a session that has just begun: nothing is in progress, the ACK asked for names frame 0, and no timer
runs (R270, R333). -/
theorem sendExec_connect {wire : List Byte} (hl : s.live) (hframe : s.txFrame = []) (hnr : s.nrTimer.running = false)
    (hwire : wire = encodeFrame (ackControl false s.notReady 0) []) (hpos : 0 < space.toNat)
    (hspace : space.toNat ≤ wire.length) :
    s.connect.sendExec now space = .ok { s.connectColumn with
      ackPending := false
      txFrame := wire.drop space.toNat
      txKind := if space.toNat < wire.length then .ack else .none
      sendState := if space.toNat < wire.length then .sendingShortFrame else .idle
      nrTimer := if s.notReady then { running := true, start := now } else s.nrTimer
      resp := { s.connect.resp with out := s.connect.resp.out ++ wire.take space.toNat } } := by
  subst hwire
  have hconnect : s.connect = { s.connectColumn with resp := s.connect.resp } := by rw [connect_eq]
  have hn : { s.connectColumn with resp := s.connect.resp }.noTimerDue now :=
    ⟨fun h => (Bool.false_ne_true h).elim, fun _ h => (Bool.false_ne_true h).elim,
      fun _ h => (Bool.false_ne_true (hnr.symm.trans h)).elim⟩
  have hack := sendExec_ack (s := { s.connectColumn with resp := s.connect.resp }) (space := space) hl hn rfl hframe rfl
    rfl rfl rfl hpos hspace
  have hrefresh : (s.notReady && !s.nrTimer.running) = s.notReady := by rw [hnr, Bool.not_false, Bool.and_true]
  rw [hconnect, hack, State.ackSent, levelled_of_none_outstanding rfl]
  simp only [State.connectColumn, hrefresh]
  rfl

end

/-! ### The obligation -/

/-- Settles O46: the chunk delivers the RSTACK, which connects, and the tick sends the ACK that `connect` asks for. -/
theorem rstackChunkConnects : Obligations.RstackChunkConnects := by
  intro s now space wire hlen hl hcon hrst hframe hnr hwire hpos hspace
  have hreceive := receiveAll_rstack (s := s.beginResponse.setDeframer .clear) (now := now) hlen hl.2 hcon hrst
  have htick := sendExec_connect (s := s.beginResponse.setDeframer .clear) (now := now) hl hframe hnr hwire hpos hspace
  rw [exec_rxChunk_of_parts hl (deframe_rstack_chunk hlen) hreceive htick hl.2, connect_eq]
  rfl

end Sys2Proof.Machine
end

section
/-!
SUPPORT. What moves `frmRx` (46_receive.md R274): every operation of a session moves it by the FRAME events it signals.
One lemma for each operation, in the order of the model's files.
-/

namespace Sys2Proof.Machine

/-- `frmRx` without the payloads that the response has announced so far. -/
def State.frmRxBase (s : State) : Seq := s.frmRx - BitVec.ofNat 3 (s.resp.events.count .frame)

/-- The block is in a session, or in the fatal error that ended one. -/
def State.SessionOrFatal (s : State) : Prop := s.connected = true ∨ s.fatalStatus ≠ .none

/-- From `s` to `t` no session began, and `frmRx` moved by the FRAME events signalled. -/
def State.ReceivesTo (s t : State) : Prop := t.frmRxBase = s.frmRxBase ∧ (s.SessionOrFatal → t.SessionOrFatal)

section

variable {s t u : State} {now : Time} {space : Space}

theorem State.ReceivesTo.trans (h₁ : s.ReceivesTo t) (h₂ : t.ReceivesTo u) : s.ReceivesTo u :=
  ⟨h₂.1.trans h₁.1, fun h => h₂.2 (h₁.2 h)⟩

theorem receivesTo_self (s : State) : s.ReceivesTo s := ⟨rfl, id⟩

@[simp] theorem frmRxBase_beginResponse (s : State) : s.beginResponse.frmRxBase = s.frmRx :=
  BitVec.sub_zero s.frmRx

/-- Events that announce no payload leave `frmRxBase` alone. -/
theorem frmRxBase_of_events {es : List Event} (hrx : t.frmRx = s.frmRx) (hev : t.resp.events = s.resp.events ++ es)
    (hes : es.count .frame = 0) : t.frmRxBase = s.frmRxBase := by
  rw [State.frmRxBase, State.frmRxBase, hrx, hev, List.count_append, hes, Nat.add_zero]

/-- One payload announced is one step of `frmRx` (R262). -/
theorem frmRxBase_of_frame (hrx : t.frmRx = s.frmRx + 1) (hev : t.resp.events = s.resp.events ++ [.frame]) :
    t.frmRxBase = s.frmRxBase := by
  have hone : BitVec.ofNat 3 ((s.resp.events ++ [Event.frame]).count .frame) =
      BitVec.ofNat 3 (s.resp.events.count .frame) + 1 := by
    rw [List.count_append, List.count_singleton_self, BitVec.ofNat_add]
    rfl
  rw [State.frmRxBase, State.frmRxBase, hrx, hev, hone]
  exact add_sub_add_right_eq_sub _ _ _

/-! ### Named operations -/

theorem count_frame_fatalEvents (status : Status) (code : FatalCode) (info : Byte) (s : State) :
    (s.fatalEvents status code info).count .frame = 0 := by
  unfold State.fatalEvents
  split <;> rfl

/-- A fatal error ends a session and announces no payload (R306). -/
theorem receivesTo_raiseFatal {status : FatalStatus} (hstatus : status ≠ .none) (code : FatalCode) (info : Byte)
    (s : State) : s.ReceivesTo (s.raiseFatal status code info) := by
  by_cases h : s.fatalStatus = .none
  · rw [raiseFatal_clear s status code info h]
    exact ⟨frmRxBase_of_events rfl rfl (count_frame_fatalEvents _ _ _ s), fun _ => .inr hstatus⟩
  · rw [raiseFatal_latched s status code info h]
    exact receivesTo_self s

theorem receivesTo_reject (s : State) : s.ReceivesTo s.reject := by
  rw [reject_eq]
  exact receivesTo_self s

theorem receivesTo_rejIfData (frame : List Byte) (s : State) : s.ReceivesTo (s.rejIfData frame) := by
  rw [rejIfData_eq]
  exact receivesTo_self s

/-! ### The receive machine -/

theorem receivesTo_frameRejected (r : FrameReject) (s : State) : s.ReceivesTo (s.frameRejected r) := by
  cases r with
  | badCrc f => exact receivesTo_rejIfData f s.countCrcError
  | commError f => exact receivesTo_rejIfData f s.countCommError
  | tooShort f => exact receivesTo_rejIfData f s.countTooShort
  | tooLong f => exact receivesTo_rejIfData f s.countTooLong
  | illegal c d => exact receivesTo_rejIfData (c :: d) s.countBadFrame
  | xonXoff => exact receivesTo_raiseFatal (by decide) .xonXoff 0 s
  | cancelled => exact receivesTo_self s
  | empty => exact receivesTo_self s

theorem receivesTo_processAck {a : Seq} (h : s.processAck a now = .ok t) : s.ReceivesTo t := by
  rcases processAck_ok h with ⟨-, rfl⟩ | ⟨-, -, rfl⟩
  · exact receivesTo_self t
  · exact receivesTo_self s

theorem receivesTo_acceptData (payload : List Byte) (s : State) : s.ReceivesTo (s.acceptData payload) := by
  cases hfl : s.rxFreeList with
  | nil =>
    rw [acceptData_nil s payload hfl]
    exact receivesTo_self s
  | cons h fl =>
    rw [acceptData_cons s payload hfl]
    exact ⟨frmRxBase_of_frame rfl rfl, id⟩

theorem receivesTo_dataFrame (f : Seq) (r : Bool) (payload : List Byte) (s : State) :
    s.ReceivesTo (s.dataFrame f r payload) := by
  unfold State.dataFrame
  split
  · exact receivesTo_acceptData payload s
  · split
    · exact receivesTo_self s
    · rw [outOfSequence_eq]
      exact receivesTo_self s

theorem receivesTo_nakFrame (s : State) : s.ReceivesTo s.nakFrame := by
  unfold State.nakFrame
  split
  · exact receivesTo_self s
  · exact receivesTo_self s

theorem receivesTo_recvData {f : Seq} {r : Bool} {a : Seq} {p : List Byte} (h : s.recvData now f r a p = .ok t) :
    s.ReceivesTo t := by
  unfold State.recvData at h
  split at h
  · cases h; exact receivesTo_self s
  split at h
  · cases h; exact receivesTo_reject s.countBadAckNum
  split at h
  · cases h
  · rename_i u hu
    cases h
    exact (receivesTo_processAck hu).trans (receivesTo_dataFrame f r p u)

theorem receivesTo_recvAck (p : Bool) {n : Bool} {a : Seq} (h : s.recvAck now p n a = .ok t) : s.ReceivesTo t := by
  unfold State.recvAck at h
  split at h
  · cases h; exact receivesTo_self s
  split at h
  · cases h; exact receivesTo_self s
  · exact receivesTo_processAck (s := { s with peerNotReady := n }) h

theorem receivesTo_recvNak (p : Bool) {n : Bool} {a : Seq} (h : s.recvNak now p n a = .ok t) : s.ReceivesTo t := by
  unfold State.recvNak at h
  split at h
  · cases h; exact receivesTo_self s
  split at h
  · cases h; exact receivesTo_self s
  split at h
  · cases h
  · rename_i u hu
    cases h
    have hack : s.ReceivesTo u := receivesTo_processAck (s := { s with peerNotReady := n }) hu
    exact hack.trans (receivesTo_nakFrame u)

/-- In a session an RSTACK is fatal and does not connect (R266). -/
theorem receivesTo_recvRstack (v r : Byte) (hcon : s.connected = true) : s.ReceivesTo (s.recvRstack v r) := by
  rw [State.recvRstack, if_pos hcon]
  exact receivesTo_raiseFatal (by decide) .ncpReset r s

theorem receivesTo_recvError (v e : Byte) (s : State) : s.ReceivesTo (s.recvError v e) :=
  receivesTo_raiseFatal (by decide) .ncpError e s

theorem receivesTo_recvFrame {f : Frame} (hcon : s.connected = true) (h : s.recvFrame now f = .ok t) :
    s.ReceivesTo t := by
  cases f with
  | data n r a d => exact receivesTo_recvData h
  | ack p n a => exact receivesTo_recvAck p h
  | nak p n a => exact receivesTo_recvNak p h
  | rst => cases h; exact receivesTo_self s
  | rstack v r => cases h; exact receivesTo_recvRstack v r hcon
  | error v e => cases h; exact receivesTo_recvError v e s

theorem receivesTo_receiveFrame {raw : List Byte} {ovf : Bool} (hcon : s.connected = true)
    (h : s.receiveFrame raw ovf now = .ok t) : s.ReceivesTo t := by
  unfold State.receiveFrame at h
  split at h
  · exact receivesTo_recvFrame hcon h
  · cases h; exact receivesTo_frameRejected _ s

/-- After a fatal frame the rest of a chunk is discarded, so none of its frames finds the block out of a session (R144,
R175). -/
theorem receivesTo_receiveAll {frames : List (List Byte × Bool)} (hcon : s.connected = true)
    (h : s.receiveAll now frames = .ok t) : s.ReceivesTo t := by
  have key : s.ReceivesTo t ∧ t.SessionOrFatal := by
    refine receiveAll_preserves (fun x => s.ReceivesTo x ∧ x.SessionOrFatal) (fun raw ovf x y hx hclear hy => ?_)
      ⟨receivesTo_self s, .inl hcon⟩ h
    obtain ⟨hsx, hsession⟩ := hx
    have hxy := receivesTo_receiveFrame (hsession.resolve_right (not_not.2 hclear)) hy
    exact ⟨hsx.trans hxy, hxy.2 hsession⟩
  exact key.1

/-! ### The tick -/

theorem frmRxBase_startTimeoutCheck (now : Time) (s : State) :
    (s.startTimeoutCheck now).frmRxBase = s.frmRxBase := by
  unfold State.startTimeoutCheck
  split
  · exact (receivesTo_raiseFatal (by decide) .resetFail 0 s).1
  · rfl

theorem frmRxBase_ackTimeoutCheck (now : Time) (s : State) : (s.ackTimeoutCheck now).frmRxBase = s.frmRxBase := by
  unfold State.ackTimeoutCheck
  split
  · split
    · exact (receivesTo_raiseFatal (by decide) .timeouts 0 s.countTimeout).1
    · rfl
  · rfl

theorem frmRxBase_nrTimerCheck (now : Time) (s : State) : (s.nrTimerCheck now).frmRxBase = s.frmRxBase := by
  unfold State.nrTimerCheck
  split <;> rfl

theorem frmRxBase_emitNext (s : State) : s.emitNext.frmRxBase = s.frmRxBase := by
  unfold State.emitNext
  split <;> rfl

theorem frmRxBase_select {x : Selected} (h : s.select now = .ok x) :
    x = .nothing ∨ (∃ t, x = .cancel t ∧ t.frmRxBase = s.frmRxBase) ∨
      ∃ t, x = .picked t ∧ t.frmRxBase = s.frmRxBase ∧ t.txFrame ≠ [] := by
  rcases select_cases h with ⟨-, rfl⟩ | ⟨-, -, rfl⟩ | ⟨-, -, -, -, rfl⟩ | ⟨-, -, -, -, -, -, k, t, -, -, rfl, rfl⟩ |
    ⟨-, -, -, -, -, -, -, k, rest, -, rfl⟩ | ⟨-, -, -, rfl⟩
  case inl => exact .inr (.inl ⟨_, rfl, rfl⟩)
  case inr.inl => exact .inr (.inr ⟨_, rfl, rfl, encodeFrame_ne_nil _ _⟩)
  case inr.inr.inl =>
    rw [pickAck_eq]
    exact .inr (.inr ⟨_, rfl, rfl, encodeFrame_ne_nil _ _⟩)
  case inr.inr.inr.inl => exact .inr (.inr ⟨_, rfl, rfl, encodeFrame_ne_nil _ _⟩)
  case inr.inr.inr.inr.inl => exact .inr (.inr ⟨_, rfl, rfl, encodeFrame_ne_nil _ _⟩)
  case inr.inr.inr.inr.inr => exact .inl rfl

theorem frmRxBase_sendLoop {n : Nat} (h : s.sendLoop now n = .ok t) : t.frmRxBase = s.frmRxBase := by
  refine sendLoop_preserves (fun x => x.frmRxBase = s.frmRxBase) (fun x hx _ => ?emit) (fun x y hx _ hy => ?cancel)
    (fun x y hx _ hy => ?pick) rfl h
  case emit => exact (frmRxBase_emitNext x).trans hx
  case cancel =>
    obtain hy | ⟨_, hy, hbase⟩ | ⟨_, hy, -⟩ := frmRxBase_select hy <;> cases hy
    exact hbase.trans hx
  case pick =>
    obtain hy | ⟨_, hy, -⟩ | ⟨_, hy, hbase, hne⟩ := frmRxBase_select hy <;> cases hy
    exact ⟨hbase.trans hx, hne⟩

theorem frmRxBase_sendFrames (h : s.sendFrames now space = .ok t) : t.frmRxBase = s.frmRxBase := by
  unfold State.sendFrames at h
  split at h
  · cases h
  · rename_i u hu
    cases h
    have hloop := frmRxBase_sendLoop hu
    rw [ackTimerLevel_eq]
    exact hloop

theorem frmRxBase_sendExec (h : s.sendExec now space = .ok t) : t.frmRxBase = s.frmRxBase := by
  unfold State.sendExec at h
  dsimp only at h
  split at h
  · cases h; rfl
  split at h
  · cases h; exact frmRxBase_startTimeoutCheck now s
  split at h
  · cases h; rw [frmRxBase_ackTimeoutCheck, frmRxBase_startTimeoutCheck]
  · rw [frmRxBase_sendFrames h, frmRxBase_nrTimerCheck, frmRxBase_ackTimeoutCheck, frmRxBase_startTimeoutCheck]

/-! ### The instructions -/

theorem frmRxBase_whenLive {body : State → Result}
    (hbody : ∀ u, body s.beginResponse = .ok u → u.frmRxBase = s.beginResponse.frmRxBase)
    (h : (s.beginResponse.whenLive body).outcome = .next t) : t.frmRxBase = s.frmRx := by
  rw [outcome_next_iff] at h
  unfold State.whenLive at h
  split at h
  · cases h; exact frmRxBase_beginResponse s
  split at h
  · cases h; exact frmRxBase_beginResponse s
  split at h
  · cases h
  · rename_i u hu
    cases h
    exact (hbody u hu).trans (frmRxBase_beginResponse s)

theorem frmRxBase_execSend {p : List Byte} (h : execSend now space p s = .next t) : t.frmRxBase = s.frmRx := by
  rw [execSend, outcome_next_iff] at h
  dsimp only at h
  split at h
  · cases h; exact frmRxBase_beginResponse s
  split at h
  · cases h; exact frmRxBase_beginResponse s
  split at h
  · cases h; exact frmRxBase_beginResponse s
  split at h
  · cases h; exact frmRxBase_beginResponse s
  split at h
  · cases h; exact frmRxBase_beginResponse s
  rename_i k s₁ hk
  unfold State.sendAccepted at h
  split at h
  · cases h
  · rename_i s₂ h₂
    cases h
    obtain ⟨fl, rfl⟩ := txAllocate_some hk
    exact (frmRxBase_sendExec h₂).trans (frmRxBase_beginResponse s)

theorem frmRxBase_execRxChunk {chunk : List Byte} (hcon : s.connected = true)
    (h : execRxChunk now space chunk s = .next t) : t.frmRxBase = s.frmRx := by
  refine frmRxBase_whenLive (fun u hu => ?_) h
  split at hu
  · cases hu
  · rename_i s₁ h₁
    have hreceive := receivesTo_receiveAll (s := (s.beginResponse.deframe chunk).2) hcon h₁
    exact (frmRxBase_sendExec hu).trans hreceive.1

theorem frmRxBase_execRxPop (h : execRxPop s = .next t) : t.frmRxBase = s.frmRx := by
  rw [execRxPop, outcome_next_iff] at h
  dsimp only at h
  split at h
  · cases h; exact frmRxBase_beginResponse s
  split at h
  · cases h
  · rename_i s₁ h₁
    obtain ⟨-, -, rfl⟩ := (rxFree_ok_iff _ _ s₁).1 h₁
    cases h
    rw [nrEval_eq]
    exact frmRxBase_beginResponse s

theorem frmRxBase_execData {f : Seq} {r : Bool} {a : Seq} {p : List Byte}
    (h : execData now f r a p s = .next t) : t.frmRxBase = s.frmRx := by
  refine frmRxBase_whenLive (fun u hu => ?_) h
  split at hu
  · exact (receivesTo_recvData hu).1
  · cases hu; exact (receivesTo_frameRejected _ s.beginResponse).1

end

/-- Settles O30: every instruction but the resets keeps `frmRxBase`, which is `frmRx` itself where it starts. -/
theorem acceptedFramesAdvanceFrmRx : Obligations.AcceptedFramesAdvanceFrmRx := by
  intro s t i hcon h hstart hstop hreset
  have key : t.frmRxBase = s.frmRx := by
    cases i with
    | start now space => exact absurd rfl (hstart now space)
    | stop => exact absurd rfl hstop
    | resetNcp => exact absurd rfl hreset
    | send now space p => exact frmRxBase_execSend h
    | rxChunk now space chunk => exact frmRxBase_execRxChunk hcon h
    | tick now space => exact frmRxBase_whenLive (fun u hu => frmRxBase_sendExec hu) h
    | rxPop => exact frmRxBase_execRxPop h
    | isConnected => cases h; exact frmRxBase_beginResponse s
    | isIdle => cases h; exact frmRxBase_beginResponse s
    | countersRead => cases h; exact frmRxBase_beginResponse s
    | countersClear => cases h; exact frmRxBase_beginResponse s
    | data now f r a p => exact frmRxBase_execData h
    | ack now p n a => exact frmRxBase_whenLive (fun u hu => (receivesTo_recvAck p hu).1) h
    | nak now p n a => exact frmRxBase_whenLive (fun u hu => (receivesTo_recvNak p hu).1) h
    | rst => exact frmRxBase_whenLive (fun u hu => by cases hu; rfl) h
    | rstack v r =>
      have hbody := receivesTo_recvRstack (s := s.beginResponse) v r hcon
      exact frmRxBase_whenLive (fun u hu => by cases hu; exact hbody.1) h
    | error v e => exact frmRxBase_whenLive (fun u hu => by cases hu; exact (receivesTo_recvError v e _).1) h
  exact sub_eq_iff_eq_add.1 key

end Sys2Proof.Machine
end

section
/-!
SUPPORT. The fatal latch and the FATAL events (60_exceptions.md R306 to R309): between two resets every operation keeps
the latch and signals no FATAL event, or enters a clear latch with exactly one. One lemma for each operation, in the
order of the model's files.
-/

namespace Sys2Proof.Machine

/-- The FATAL events that the response has announced so far. -/
def State.fatalsSignalled (s : State) : Nat := s.resp.events.countP Event.isFatal

/-- The fatal latch, with the FATAL events announced so far. -/
def State.latch (s : State) : FatalStatus × FatalCode × Byte × Nat :=
  (s.fatalStatus, s.fatalCode, s.fatalInfo, s.fatalsSignalled)

/-- From `s` to `t` the latch was kept with no FATAL event, or it was clear and was entered with one. -/
inductive State.LatchesTo (s t : State) : Prop
  | kept (h : t.latch = s.latch)
  | entered (hclear : s.fatalStatus = .none) (hset : t.fatalStatus ≠ .none)
      (hone : t.fatalsSignalled = s.fatalsSignalled + 1)

section

variable {s t u : State} {now : Time} {space : Space}

theorem latch_eq_iff : t.latch = s.latch ↔ t.fatalStatus = s.fatalStatus ∧ t.fatalCode = s.fatalCode ∧
    t.fatalInfo = s.fatalInfo ∧ t.fatalsSignalled = s.fatalsSignalled := by
  simp only [State.latch, Prod.mk.injEq]

theorem latchesTo_self (s : State) : s.LatchesTo s := .kept rfl

/-- A latch entered before is set, so it is not entered again. -/
theorem State.LatchesTo.trans (h₁ : s.LatchesTo t) (h₂ : t.LatchesTo u) : s.LatchesTo u := by
  cases h₁ with
  | kept hst =>
    obtain ⟨hstatus, -, -, hcount⟩ := latch_eq_iff.1 hst
    cases h₂ with
    | kept htu => exact .kept (htu.trans hst)
    | entered hclear hset hone => exact .entered (hstatus ▸ hclear) hset (hcount ▸ hone)
  | entered hclear hset hone =>
    cases h₂ with
    | kept htu =>
      obtain ⟨hstatus, -, -, hcount⟩ := latch_eq_iff.1 htu
      exact .entered hclear (hstatus ▸ hset) (hcount ▸ hone)
    | entered hclear' _ _ => exact absurd hclear' hset

/-! ### Named operations -/

/-- A fatal entry signals one FATAL event, whether or not a START waits (R306). -/
theorem countP_isFatal_fatalEvents (status : Status) (code : FatalCode) (info : Byte) (s : State) :
    (s.fatalEvents status code info).countP Event.isFatal = 1 := by
  unfold State.fatalEvents
  split <;> rfl

theorem latchesTo_raiseFatal {status : FatalStatus} (hstatus : status ≠ .none) (code : FatalCode) (info : Byte)
    (s : State) : s.LatchesTo (s.raiseFatal status code info) := by
  by_cases h : s.fatalStatus = .none
  · rw [raiseFatal_clear s status code info h]
    refine .entered h hstatus ?_
    simp only [State.fatalsSignalled, List.countP_append, countP_isFatal_fatalEvents]
  · rw [raiseFatal_latched s status code info h]
    exact latchesTo_self s

theorem latch_reject (s : State) : s.reject.latch = s.latch := by rw [reject_eq]; rfl

theorem latch_rejIfData (frame : List Byte) (s : State) : (s.rejIfData frame).latch = s.latch := by
  rw [rejIfData_eq]; rfl

theorem latch_nrEval (s : State) : s.nrEval.latch = s.latch := by rw [nrEval_eq]; rfl

/-- Events that hold no FATAL event leave the latch as it is. -/
theorem latch_of_events {es : List Event} (hes : es.countP Event.isFatal = 0) (s : State) :
    State.latch { s with resp := { s.resp with events := s.resp.events ++ es } } = s.latch := by
  simp only [State.latch, State.fatalsSignalled, List.countP_append, hes, Nat.add_zero]

theorem latch_endStart (st : Status) (s : State) : (s.endStart st).latch = s.latch := by
  have hes : (if s.startPending then [Event.startDone st] else []).countP Event.isFatal = 0 := by split <;> rfl
  rw [endStart_eq]
  exact latch_of_events hes s

theorem latch_connect (s : State) : s.connect.latch = s.latch := by
  have hes : (if s.startPending then [Event.startDone .success] else []).countP Event.isFatal = 0 := by split <;> rfl
  rw [connect_eq]
  exact latch_of_events hes s

/-! ### The receive machine -/

theorem latchesTo_frameRejected (r : FrameReject) (s : State) : s.LatchesTo (s.frameRejected r) := by
  cases r with
  | badCrc f => exact .kept (latch_rejIfData f s.countCrcError)
  | commError f => exact .kept (latch_rejIfData f s.countCommError)
  | tooShort f => exact .kept (latch_rejIfData f s.countTooShort)
  | tooLong f => exact .kept (latch_rejIfData f s.countTooLong)
  | illegal c d => exact .kept (latch_rejIfData (c :: d) s.countBadFrame)
  | xonXoff => exact latchesTo_raiseFatal (by decide) .xonXoff 0 s
  | cancelled => exact latchesTo_self s
  | empty => exact latchesTo_self s

theorem latch_processAck {a : Seq} (h : s.processAck a now = .ok t) : t.latch = s.latch := by
  rcases processAck_ok h with ⟨-, rfl⟩ | ⟨-, -, rfl⟩ <;> rfl

theorem latch_acceptData (payload : List Byte) (s : State) : (s.acceptData payload).latch = s.latch := by
  cases hfl : s.rxFreeList with
  | nil => rw [acceptData_nil s payload hfl]; rfl
  | cons h fl =>
    rw [acceptData_cons s payload hfl]
    exact latch_of_events (es := [.frame]) rfl s

theorem latch_dataFrame (f : Seq) (r : Bool) (payload : List Byte) (s : State) :
    (s.dataFrame f r payload).latch = s.latch := by
  unfold State.dataFrame
  split
  · exact latch_acceptData payload s
  · split
    · rfl
    · rw [outOfSequence_eq]; rfl

theorem latch_nakFrame (s : State) : s.nakFrame.latch = s.latch := by
  unfold State.nakFrame
  split <;> rfl

theorem latch_recvData {f : Seq} {r : Bool} {a : Seq} {p : List Byte} (h : s.recvData now f r a p = .ok t) :
    t.latch = s.latch := by
  unfold State.recvData at h
  split at h
  · cases h; rfl
  split at h
  · cases h; exact latch_reject s.countBadAckNum
  split at h
  · cases h
  · rename_i u hu
    cases h
    exact (latch_dataFrame f r p u).trans (latch_processAck hu)

theorem latch_recvAck (p : Bool) {n : Bool} {a : Seq} (h : s.recvAck now p n a = .ok t) : t.latch = s.latch := by
  unfold State.recvAck at h
  split at h
  · cases h; rfl
  split at h
  · cases h; rfl
  · exact latch_processAck (s := { s with peerNotReady := n }) h

theorem latch_recvNak (p : Bool) {n : Bool} {a : Seq} (h : s.recvNak now p n a = .ok t) : t.latch = s.latch := by
  unfold State.recvNak at h
  split at h
  · cases h; rfl
  split at h
  · cases h; rfl
  split at h
  · cases h
  · rename_i u hu
    cases h
    exact (latch_nakFrame u).trans (latch_processAck (s := { s with peerNotReady := n }) hu)

theorem latchesTo_recvRstack (v r : Byte) (s : State) : s.LatchesTo (s.recvRstack v r) := by
  unfold State.recvRstack
  split
  · exact latchesTo_raiseFatal (by decide) .ncpReset r s
  split
  · exact latchesTo_raiseFatal (by decide) .version 0 s
  split
  · exact .kept (latch_connect s)
  · exact latchesTo_self s

theorem latchesTo_recvError (v e : Byte) (s : State) : s.LatchesTo (s.recvError v e) :=
  latchesTo_raiseFatal (by decide) .ncpError e s

theorem latchesTo_recvFrame {f : Frame} (h : s.recvFrame now f = .ok t) : s.LatchesTo t := by
  cases f with
  | data n r a d => exact .kept (latch_recvData h)
  | ack p n a => exact .kept (latch_recvAck p h)
  | nak p n a => exact .kept (latch_recvNak p h)
  | rst => cases h; exact latchesTo_self s
  | rstack v r => cases h; exact latchesTo_recvRstack v r s
  | error v e => cases h; exact latchesTo_recvError v e s

theorem latchesTo_receiveFrame {raw : List Byte} {ovf : Bool} (h : s.receiveFrame raw ovf now = .ok t) :
    s.LatchesTo t := by
  unfold State.receiveFrame at h
  split at h
  · exact latchesTo_recvFrame h
  · cases h; exact latchesTo_frameRejected _ s

theorem latchesTo_receiveAll {frames : List (List Byte × Bool)} (h : s.receiveAll now frames = .ok t) :
    s.LatchesTo t :=
  receiveAll_preserves s.LatchesTo (fun _ _ _ _ hx _ hy => hx.trans (latchesTo_receiveFrame hy)) (latchesTo_self s) h

/-! ### The tick -/

theorem latchesTo_startTimeoutCheck (now : Time) (s : State) : s.LatchesTo (s.startTimeoutCheck now) := by
  unfold State.startTimeoutCheck
  split
  · exact latchesTo_raiseFatal (by decide) .resetFail 0 s
  · exact latchesTo_self s

theorem latchesTo_ackTimeoutCheck (now : Time) (s : State) : s.LatchesTo (s.ackTimeoutCheck now) := by
  unfold State.ackTimeoutCheck
  split
  · have hcount : s.LatchesTo s.countTimeout := .kept rfl
    split
    · exact hcount.trans (latchesTo_raiseFatal (by decide) .timeouts 0 s.countTimeout)
    · exact .kept rfl
  · exact latchesTo_self s

theorem latch_nrTimerCheck (now : Time) (s : State) : (s.nrTimerCheck now).latch = s.latch := by
  unfold State.nrTimerCheck
  split <;> rfl

theorem latch_emitNext (s : State) : s.emitNext.latch = s.latch := by
  unfold State.emitNext
  split <;> rfl

end

/-- What selection leaves, where it does not end the loop: a state with `P` and, where a frame was picked, a frame in
progress (R121, R202). -/
def Selected.Leaves (P : State → Prop) : Selected → Prop
  | .nothing => True
  | .cancel s => P s
  | .picked s => P s ∧ s.txFrame ≠ []

section

variable {s t : State} {now : Time} {space : Space}

/-- What every row of the selection leaves, the selection leaves (R202). -/
theorem Selected.leaves_of_select {P : State → Prop} {x : Selected} (hx : s.select now = .ok x)
    (hcancel : P s.emitCancel) (hrst : P s.pickRst) (hack : P (s.pickAck now))
    (hredata : ∀ k, s.connected = true → s.retransmit = true → s.reTxQueue[dist8 s.ackRx s.frmReTx]? = some k →
      P (s.reDataPicked k))
    (hdata : ∀ k rest, s.connected = true → s.retransmit = false → dist8 s.ackRx s.frmTx < s.cfg.txK →
      s.txQueue = k :: rest → P (s.pickData k rest)) : x.Leaves P := by
  rcases select_cases hx with ⟨-, rfl⟩ | ⟨-, -, rfl⟩ | ⟨-, -, -, -, rfl⟩ |
    ⟨-, -, hcon, -, -, hre, k, t, hk, ht, rfl, -⟩ | ⟨-, -, hcon, -, -, hre, hwindow, k, rest, hq, rfl⟩ | ⟨-, -, -, rfl⟩
  case inl => exact hcancel
  case inr.inl => exact ⟨hrst, encodeFrame_ne_nil _ _⟩
  case inr.inr.inl =>
    refine ⟨hack, ?_⟩
    rw [pickAck_eq]
    exact encodeFrame_ne_nil _ _
  case inr.inr.inr.inl =>
    rw [pickReData_eq hre hk, Except.ok.injEq] at ht
    exact ht ▸ ⟨hredata k hcon hre hk, encodeFrame_ne_nil _ _⟩
  case inr.inr.inr.inr.inl => exact ⟨hdata k rest hcon hre hwindow hq, encodeFrame_ne_nil _ _⟩
  case inr.inr.inr.inr.inr => exact trivial

theorem latch_select {x : Selected} (hx : s.select now = .ok x) : x.Leaves fun t => t.latch = s.latch := by
  refine Selected.leaves_of_select hx rfl rfl ?_ (fun _ _ _ _ => rfl) (fun _ _ _ _ _ _ => rfl)
  rw [pickAck_eq]
  rfl

theorem latch_sendLoop {n : Nat} (h : s.sendLoop now n = .ok t) : t.latch = s.latch := by
  refine sendLoop_preserves (fun x => x.latch = s.latch) (fun x hx _ => (latch_emitNext x).trans hx)
    (fun x y hx _ hy => ?cancel) (fun x y hx _ hy => ?pick) rfl h
  case cancel => exact (latch_select hy).trans hx
  case pick =>
    obtain ⟨hlatch, hne⟩ := latch_select hy
    exact ⟨hlatch.trans hx, hne⟩

theorem latch_sendFrames (h : s.sendFrames now space = .ok t) : t.latch = s.latch := by
  obtain ⟨x, hx, rfl⟩ := sendFrames_ok_iff.1 h
  have hloop := latch_sendLoop hx
  exact hloop

theorem latch_sendExec_of_noTimerDue (hl : s.live) (hn : s.noTimerDue now) (h : s.sendExec now space = .ok t) :
    t.latch = s.latch := by
  rw [sendExec_noTimerDue s hl hn] at h
  exact latch_sendFrames h

theorem latchesTo_sendExec (h : s.sendExec now space = .ok t) : s.LatchesTo t := by
  have hstart := latchesTo_startTimeoutCheck now s
  have hack := hstart.trans (latchesTo_ackTimeoutCheck now _)
  unfold State.sendExec at h
  dsimp only at h
  split at h
  · cases h; exact latchesTo_self s
  split at h
  · cases h; exact hstart
  split at h
  · cases h; exact hack
  · exact hack.trans (.kept ((latch_sendFrames h).trans (latch_nrTimerCheck now _)))

/-! ### The instructions -/

theorem latchesTo_whenLive {body : State → Result}
    (hbody : ∀ u, body s.beginResponse = .ok u → s.beginResponse.LatchesTo u)
    (h : (s.beginResponse.whenLive body).outcome = .next t) : s.beginResponse.LatchesTo t := by
  rw [outcome_next_iff] at h
  unfold State.whenLive at h
  split at h
  · cases h; exact .kept rfl
  split at h
  · cases h; exact .kept rfl
  split at h
  · cases h
  · rename_i u hu
    cases h
    exact (hbody u hu).trans (.kept rfl)

theorem latchesTo_execSend {p : List Byte} (h : execSend now space p s = .next t) : s.beginResponse.LatchesTo t := by
  rw [execSend, outcome_next_iff] at h
  dsimp only at h
  split at h
  · cases h; exact .kept rfl
  split at h
  · cases h; exact .kept rfl
  split at h
  · cases h; exact .kept rfl
  split at h
  · cases h; exact .kept rfl
  split at h
  · cases h; exact .kept rfl
  rename_i k s₁ hk
  unfold State.sendAccepted at h
  split at h
  · cases h
  · rename_i s₂ h₂
    cases h
    obtain ⟨fl, rfl⟩ := txAllocate_some hk
    have hrespond : s₂.LatchesTo (s₂.respond .success) := .kept rfl
    refine .trans ?_ ((latchesTo_sendExec h₂).trans hrespond)
    exact .kept rfl

theorem latchesTo_execRxChunk {chunk : List Byte} (h : execRxChunk now space chunk s = .next t) :
    s.beginResponse.LatchesTo t := by
  refine latchesTo_whenLive (fun u hu => ?_) h
  split at hu
  · cases hu
  · rename_i s₁ h₁
    have hdeframed : s.beginResponse.LatchesTo (s.beginResponse.deframe chunk).2 := .kept rfl
    exact hdeframed.trans ((latchesTo_receiveAll h₁).trans (latchesTo_sendExec hu))

theorem latch_execRxPop (h : execRxPop s = .next t) : t.latch = s.beginResponse.latch := by
  rw [execRxPop, outcome_next_iff] at h
  dsimp only at h
  split at h
  · cases h; rfl
  split at h
  · cases h
  · rename_i s₁ h₁
    obtain ⟨-, -, rfl⟩ := (rxFree_ok_iff _ _ s₁).1 h₁
    cases h
    exact (latch_nrEval _).trans rfl

theorem latchesTo_execData {f : Seq} {r : Bool} {a : Seq} {p : List Byte} (h : execData now f r a p s = .next t) :
    s.beginResponse.LatchesTo t := by
  refine latchesTo_whenLive (fun u hu => ?_) h
  split at hu
  · exact .kept (latch_recvData hu)
  · cases hu; exact latchesTo_frameRejected _ s.beginResponse

/-- START clears the latch, and its own tick finds no timer due that could enter it again (R171, R308). -/
theorem latch_execStart (h : execStart now space s = .next t) : t.latch = (.none, .none, 0, 0) := by
  rw [execStart, outcome_next_iff] at h
  split at h
  · cases h
  rename_i s₁ h₁
  have harm := arm_ok h₁
  have hl : s₁.live := by rw [harm]; exact ⟨rfl, rfl⟩
  have hcon : s₁.connected = false := by rw [harm]; rfl
  have hn : { s₁ with startPending := true, startTime := now }.noTimerDue now :=
    ⟨fun _ => (elapsed_self now).trans_lt (by decide), fun h => absurd (hcon.symm.trans h) Bool.false_ne_true,
      fun h => absurd (hcon.symm.trans h) Bool.false_ne_true⟩
  split at h
  · cases h
  · rename_i s₂ h₂
    cases h
    have hclear : s₁.latch = (.none, .none, 0, 0) := by rw [harm]; rfl
    have htick := latch_sendExec_of_noTimerDue (s := { s₁ with startPending := true, startTime := now }) hl hn h₂
    exact htick.trans hclear

theorem latch_execStop (h : execStop s = .next t) : t.latch = (.none, .none, 0, 0) := by
  rw [execStop, outcome_next_iff] at h
  split at h
  · cases h
  rename_i s₁ h₁
  obtain rfl := teardown_ok h₁
  have hcount : (s.beginResponse.endStart .hostFatalError).fatalsSignalled = 0 :=
    (latch_eq_iff.1 (latch_endStart .hostFatalError s.beginResponse)).2.2.2
  cases h
  exact congrArg (fun n => (FatalStatus.none, FatalCode.none, 0, n)) hcount

theorem latch_execResetNcp (h : execResetNcp s = .next t) : t.latch = (.none, .none, 0, 0) := by
  rw [execResetNcp, outcome_next_iff] at h
  split at h
  · cases h
  rename_i s₁ h₁
  obtain rfl := arm_ok h₁
  cases h
  rfl

/-- A reset leaves the latch clear and signals no FATAL event; any other instruction keeps the latch or enters it
(R306, R308, R309). -/
theorem latch_exec {i : Instr} (h : exec i s = .next t) :
    (((∃ now space, i = .start now space) ∨ i = .stop ∨ i = .resetNcp) ∧ t.latch = (.none, .none, 0, 0)) ∨
      s.beginResponse.LatchesTo t := by
  cases i with
  | start now space => exact .inl ⟨.inl ⟨now, space, rfl⟩, latch_execStart h⟩
  | stop => exact .inl ⟨.inr (.inl rfl), latch_execStop h⟩
  | resetNcp => exact .inl ⟨.inr (.inr rfl), latch_execResetNcp h⟩
  | send now space p => exact .inr (latchesTo_execSend h)
  | rxChunk now space chunk => exact .inr (latchesTo_execRxChunk h)
  | tick now space => exact .inr (latchesTo_whenLive (fun u hu => latchesTo_sendExec hu) h)
  | rxPop => exact .inr (.kept (latch_execRxPop h))
  | isConnected => cases h; exact .inr (.kept rfl)
  | isIdle => cases h; exact .inr (.kept rfl)
  | countersRead => cases h; exact .inr (.kept rfl)
  | countersClear => cases h; exact .inr (.kept rfl)
  | data now f r a p => exact .inr (latchesTo_execData h)
  | ack now p n a => exact .inr (latchesTo_whenLive (fun u hu => .kept (latch_recvAck p hu)) h)
  | nak now p n a => exact .inr (latchesTo_whenLive (fun u hu => .kept (latch_recvNak p hu)) h)
  | rst => exact .inr (latchesTo_whenLive (fun u hu => by cases hu; exact .kept rfl) h)
  | rstack v r => exact .inr (latchesTo_whenLive (fun u hu => by cases hu; exact latchesTo_recvRstack v r _) h)
  | error v e => exact .inr (latchesTo_whenLive (fun u hu => by cases hu; exact latchesTo_recvError v e _) h)

/-! ### A set latch silences the block (R307) -/

theorem out_traffic_of_latched {i : Instr} (hf : s.fatalStatus ≠ .none) (hi : IsTraffic i) (h : exec i s = .next t) :
    t.resp.out = [] := by
  obtain ⟨body, hbody⟩ := exec_traffic hi s
  rw [hbody] at h
  cases ha : s.active with
  | false => rw [whenLive_inactive s body ha] at h; cases h; rfl
  | true => rw [whenLive_fatal s body ha hf] at h; cases h; rfl

/-- The instructions that have a budget are turned away, but for START. -/
theorem out_of_latched {i : Instr} (hf : s.fatalStatus ≠ .none) (hstart : ∀ now space, i ≠ .start now space)
    (h : exec i s = .next t) : t.resp.out = [] := by
  have hbudget (hzero : instrBudget i = 0) : t.resp.out = [] :=
    List.eq_nil_of_length_eq_zero (Nat.le_zero.1 (hzero ▸ outputStaysWithinSpace s t i h))
  cases i with
  | start now space => exact absurd rfl (hstart now space)
  | send now space p => rw [exec_send_fatal hf rfl] at h; cases h; rfl
  | rxChunk now space chunk => exact out_traffic_of_latched hf (.inl ⟨now, space, chunk, rfl⟩) h
  | tick now space => exact out_traffic_of_latched hf (.inr (.inl ⟨now, space, rfl⟩)) h
  | _ => exact hbudget rfl

/-! ### The resets (R331) -/

theorem exec_resetNcp (hs : s.owned) : exec .resetNcp s = .next (s.armed.respond .success) := by
  simp only [exec, execResetNcp, arm_beginResponse hs, outcome_ok]

/-- However much of the CANCEL and the RST of a START has been sent, the RST is pending, in progress or out (R203,
R204). -/
theorem rst_of_resetSent {n : Nat} (hcancel : s.cancelPending = true) :
    (s.resetSent n).rstPending = true ∨ (s.resetSent n).txKind = .rst ∨ (s.resetSent n).rstSent = true := by
  simp only [State.resetSent, hcancel, if_true]
  by_cases hpending : n ≤ 1
  · exact .inl (decide_eq_true hpending)
  by_cases hprogress : n < 1 + 4
  · exact .inr (.inl (by rw [if_neg hpending, if_pos hprogress]))
  · exact .inr (.inr (by simp [Nat.not_lt.1 hprogress]))

end

/-! ### The obligations -/

/-- Settles O26: the resets by their exact results; any other instruction keeps a set latch and is silent. -/
theorem onlyResetsClearFatalLatch : Obligations.OnlyResetsClearFatalLatch := by
  refine ⟨fun s i hs hi => ?_, fun s t i hf h => ?_⟩
  · rcases hi with ⟨now, space, rfl⟩ | rfl | rfl
    · exact ⟨_, exec_start hs, rfl, rfl, rfl, rfl, rfl, rfl, rfl, rfl, rfl, rfl, fun _ => ⟨rfl, rst_of_resetSent rfl⟩⟩
    · exact ⟨_, exec_stop hs, rfl, rfl, rfl, rfl, rfl, rfl, rfl, rfl, rfl, rfl, fun h => absurd rfl h⟩
    · exact ⟨_, exec_resetNcp hs, rfl, rfl, rfl, rfl, rfl, rfl, rfl, rfl, rfl, rfl, fun _ => ⟨rfl, .inl rfl⟩⟩
  · by_cases hstart : ∃ now space, i = .start now space
    · exact .inl hstart
    have hout := out_of_latched hf (fun now space hi => hstart ⟨now, space, hi⟩) h
    rcases latch_exec h with ⟨hstart | hstop | hreset, -⟩ | hlatch
    · exact .inl hstart
    · exact .inr (.inl hstop)
    · exact .inr (.inr (.inl hreset))
    · cases hlatch with
      | kept hkept =>
        obtain ⟨hstatus, hcode, hinfo, -⟩ := latch_eq_iff.1 hkept
        exact .inr (.inr (.inr ⟨hstatus, hcode, hinfo, hout⟩))
      | entered hclear _ _ => exact absurd hclear hf

/-- Settles O27: a reset leaves the latch clear with no FATAL event; any other instruction keeps the latch with none or
enters it with one. -/
theorem fatalEventExactlyOnEntry : Obligations.FatalEventExactlyOnEntry := by
  intro s t i h
  show t.fatalsSignalled = _
  rcases latch_exec h with ⟨-, hreset⟩ | hlatch
  · simp only [State.latch, Prod.mk.injEq] at hreset
    obtain ⟨hclear, -, -, hcount⟩ := hreset
    rw [if_neg fun hentry => hentry.2 hclear, hcount]
  · cases hlatch with
    | kept hkept =>
      obtain ⟨hstatus, -, -, hcount⟩ := latch_eq_iff.1 hkept
      rw [if_neg fun hentry => hentry.2 (hstatus.trans hentry.1)]
      exact hcount
    | entered hclear hset hone => rw [if_pos ⟨hclear, hset⟩, hone]; rfl

end Sys2Proof.Machine
end

section
/-!
SUPPORT. Where the invariant holds no precondition of the buffer operations is broken (60_exceptions.md R312). The part
of the invariant that they rest on is kept inside a command as well: by every received frame, every timer check and
every frame the tick selects. One lemma for each operation, in the order of the model's files.
-/

namespace Sys2Proof.Machine

/-- The window of a session: `reTxQueue` holds the outstanding frames, `frmReTx` is one of them while retransmission
lasts, and the ACK timer runs only while there are any (R26). -/
def State.WindowSound (s : State) : Prop :=
  s.reTxQueue.length = dist8 s.ackRx s.frmTx ∧ dist8 s.ackRx s.frmReTx ≤ dist8 s.ackRx s.frmTx ∧
    (s.retransmit = true → s.frmReTx ≠ s.frmTx) ∧ (s.ackTimer.running = true → s.ackRx ≠ s.frmTx)

/-- What the preconditions of `free`, `pop_front` and `peekNth` rest on (R154, R156, R158): every handle has its one
owner, the window is sound, and a block that may yet connect has no frames outstanding. -/
def State.Sound (s : State) : Prop :=
  s.owned ∧ s.cfg.txK ≤ 7 ∧ (s.connected = true → s.WindowSound) ∧
    (s.connected = false → s.fatalStatus = .none → s.reTxQueue = [])

theorem sound_of_inv {s : State} (hi : s.Inv) : s.Sound := by
  refine ⟨hi.owned, txK_le_seven hi.valid, fun hcon => ?_, fun hcon hf => ?_⟩
  · obtain ⟨hlength, -, hwithin, hmode, htimer⟩ := hi.sequence hcon
    exact ⟨hlength, (within_iff _ _ _).1 hwithin, hmode, htimer.1⟩
  · obtain ⟨-, -, -, -, -, hempty⟩ := hi.disconnected hcon
    exact (hempty hf).2.1

section

variable {s t : State} {now : Time} {space : Space} {a : Seq}

/-- An operation that keeps the handles keeps the ownership. -/
theorem State.Sound.of_holdings (h : s.Sound) (hk : t.holdings = s.holdings)
    (hwindow : t.connected = true → t.WindowSound)
    (hidle : t.connected = false → t.fatalStatus = .none → t.reTxQueue = []) : t.Sound := by
  obtain ⟨howned, htxK, -, -⟩ := h
  have hcfg : t.cfg = s.cfg := congrArg Prod.fst hk
  exact ⟨owned_of_holdings_eq hk howned, hcfg ▸ htxK, hwindow, hidle⟩

/-! ### Frame numbers (R13) -/

theorem dist8_self (x : Seq) : dist8 x x = 0 := (dist8_eq_zero_iff x x).2 rfl

/-- The way from `lo` to `hi` leads through `x`. -/
theorem dist8_sub {lo x hi : Seq} (h : dist8 lo x ≤ dist8 lo hi) : dist8 x hi = dist8 lo hi - dist8 lo x := by
  unfold dist8 at *
  bv_omega

/-- The frames outstanding after one more is sent through an open window (R207). -/
theorem dist8_succ_of_lt_seven {x y : Seq} (h : dist8 x y < 7) : dist8 x (y + 1) = dist8 x y + 1 := by
  unfold dist8 at *
  bv_omega

/-! ### Named operations -/

/-- A fatal block has no session, and will have none before it is reset (R306). -/
theorem State.Sound.raiseFatal {status : FatalStatus} (hstatus : status ≠ .none) (code : FatalCode) (info : Byte)
    (h : s.Sound) : (s.raiseFatal status code info).Sound := by
  by_cases hf : s.fatalStatus = .none
  · rw [raiseFatal_clear s status code info hf]
    obtain ⟨howned, htxK, -, -⟩ := h
    exact ⟨howned, htxK, fun hcon => (Bool.false_ne_true hcon).elim, fun _ hclear => absurd hclear hstatus⟩
  · rwa [raiseFatal_latched s status code info hf]

/-- A session begins with no frame outstanding (R270). -/
theorem State.Sound.connect (hcon : s.connected = false) (hf : s.fatalStatus = .none) (h : s.Sound) :
    s.connect.Sound := by
  obtain ⟨howned, htxK, -, hidle⟩ := h
  have hempty : s.reTxQueue.length = dist8 0 0 := congrArg List.length (hidle hcon hf)
  rw [connect_eq]
  exact ⟨howned, htxK, fun _ => ⟨hempty, le_rfl, fun h => (Bool.false_ne_true h).elim,
    fun h => (Bool.false_ne_true h).elim⟩, fun h => (Bool.false_ne_true h.symm).elim⟩

theorem State.Sound.rejIfData (frame : List Byte) (h : s.Sound) : (s.rejIfData frame).Sound := by
  rw [rejIfData_eq]
  exact h

/-! ### The receive machine -/

theorem State.Sound.frameRejected (r : FrameReject) (h : s.Sound) : (s.frameRejected r).Sound := by
  cases r with
  | badCrc f => exact State.Sound.rejIfData (s := s.countCrcError) f h
  | commError f => exact State.Sound.rejIfData (s := s.countCommError) f h
  | tooShort f => exact State.Sound.rejIfData (s := s.countTooShort) f h
  | tooLong f => exact State.Sound.rejIfData (s := s.countTooLong) f h
  | illegal c d => exact State.Sound.rejIfData (s := s.countBadFrame) (c :: d) h
  | xonXoff => exact h.raiseFatal (by decide) .xonXoff 0
  | cancelled => exact h
  | empty => exact h

/-- A number in range acknowledges no more frames than `reTxQueue` holds (R256, R257). -/
theorem State.Sound.canTakeAck (h : s.Sound) (hcon : s.connected = true) (ha : s.ackValid a = true) :
    s.CanTakeAck a := by
  obtain ⟨⟨htx, -⟩, -, hwindow, -⟩ := h
  obtain ⟨hlength, -⟩ := hwindow hcon
  exact ⟨hcon, ha, hlength ▸ (within_iff _ _ _).1 ha, htx⟩

theorem State.WindowSound.ackColumn (now : Time) (h : s.WindowSound) (ha : dist8 s.ackRx a ≤ dist8 s.ackRx s.frmTx) :
    (s.ackColumn a now).WindowSound := by
  obtain ⟨hlength, -, -, -⟩ := h
  refine ⟨?_, ?_, fun hmode => ?_, fun hrunning hseq => ?_⟩
  · have hdrop : (s.ackColumn a now).reTxQueue.length = s.reTxQueue.length - dist8 s.ackRx a := List.length_drop
    rw [hdrop, hlength]
    exact (dist8_sub ha).symm
  · show dist8 a (if within a s.frmReTx s.frmTx then s.frmReTx else a) ≤ dist8 a s.frmTx
    split
    · next hwithin => exact (within_iff _ _ _).1 hwithin
    · rw [dist8_self]; exact Nat.zero_le _
  · simp only [State.ackColumn, Bool.and_eq_true, bne_iff_ne] at hmode
    exact hmode.2
  · have hseq' : a = s.frmTx := hseq
    rw [State.ackColumn, if_pos hseq'] at hrunning
    exact Bool.false_ne_true hrunning

theorem State.Sound.acked (now : Time) (h : s.Sound) (ha : s.CanTakeAck a) : (s.acked a now).Sound := by
  obtain ⟨hcon, hvalid, -, -⟩ := ha
  unfold State.acked
  split
  · exact h
  · have ⟨_, _, hwindow, _⟩ := h
    exact h.of_holdings (holdings_ackColumn s a now)
      (fun _ => (hwindow hcon).ackColumn now ((within_iff _ _ _).1 hvalid))
      (fun hdis => absurd (hcon.symm.trans hdis).symm Bool.false_ne_true)

theorem State.Sound.acceptData (payload : List Byte) (h : s.Sound) : (s.acceptData payload).Sound := by
  cases hfl : s.rxFreeList with
  | nil =>
    rw [acceptData_nil s payload hfl]
    exact h
  | cons k fl =>
    have ⟨_, _, hwindow, hidle⟩ := h
    refine h.of_holdings (holdings_acceptData s payload) ?_ ?_ <;> rw [acceptData_cons s payload hfl]
    · exact hwindow
    · exact hidle

theorem State.Sound.dataFrame (f : Seq) (r : Bool) (payload : List Byte) (h : s.Sound) :
    (s.dataFrame f r payload).Sound := by
  unfold State.dataFrame
  split
  · exact h.acceptData payload
  · split
    · exact h
    · rw [outOfSequence_eq]
      exact h

/-- With frames outstanding, retransmission can start from the oldest of them (R237). -/
theorem State.Sound.startRetransmit (h : s.Sound) (hout : s.ackRx ≠ s.frmTx) : s.startRetransmit.Sound := by
  obtain ⟨howned, htxK, hwindow, hidle⟩ := h
  refine ⟨howned, htxK, fun hcon => ?_, hidle⟩
  obtain ⟨hlength, -⟩ := hwindow hcon
  exact ⟨hlength, (dist8_self s.ackRx).trans_le (Nat.zero_le _), fun _ => hout, fun _ => hout⟩

theorem State.Sound.nakFrame (h : s.Sound) : s.nakFrame.Sound := by
  unfold State.nakFrame
  split
  · next hmode =>
    simp only [Bool.and_eq_true, bne_iff_ne] at hmode
    exact h.startRetransmit hmode.2
  · exact h

theorem State.Sound.recvData (f : Seq) (r : Bool) (p : List Byte) (h : s.Sound) :
    ∃ t, s.recvData now f r a p = .ok t ∧ t.Sound := by
  by_cases hcon : s.connected = true
  · by_cases ha : s.ackValid a = true
    · have hack := h.canTakeAck hcon ha
      exact ⟨_, recvData_ok f r p hack, (h.acked now hack).dataFrame f r p⟩
    · exact ⟨_, recvData_badAckNum s now f r p hcon (eq_false_of_ne_true ha), h⟩
  · exact ⟨s, by simp [State.recvData, hcon], h⟩

theorem State.Sound.recvAck (p n : Bool) (h : s.Sound) : ∃ t, s.recvAck now p n a = .ok t ∧ t.Sound := by
  by_cases hcon : s.connected = true
  · by_cases ha : s.ackValid a = true
    · have hack := h.canTakeAck hcon ha
      exact ⟨_, recvAck_ok p n hack, State.Sound.acked (s := { s with peerNotReady := n }) now h hack⟩
    · exact ⟨_, recvAck_badAckNum s now p n hcon (eq_false_of_ne_true ha), h⟩
  · exact ⟨s, by simp [State.recvAck, hcon], h⟩

theorem State.Sound.recvNak (p n : Bool) (h : s.Sound) : ∃ t, s.recvNak now p n a = .ok t ∧ t.Sound := by
  by_cases hcon : s.connected = true
  · by_cases ha : s.ackValid a = true
    · have hack := h.canTakeAck hcon ha
      exact ⟨_, recvNak_ok p n hack, (State.Sound.acked (s := { s with peerNotReady := n }) now h hack).nakFrame⟩
    · exact ⟨_, recvNak_badAckNum s now p n hcon (eq_false_of_ne_true ha), h⟩
  · exact ⟨s, by simp [State.recvNak, hcon], h⟩

theorem State.Sound.recvRstack (v r : Byte) (hf : s.fatalStatus = .none) (h : s.Sound) : (s.recvRstack v r).Sound := by
  unfold State.recvRstack
  split
  · exact h.raiseFatal (by decide) .ncpReset r
  next hcon =>
  split
  · exact h.raiseFatal (by decide) .version 0
  split
  · exact h.connect (eq_false_of_ne_true hcon) hf
  · exact h

theorem State.Sound.recvFrame (f : Frame) (hf : s.fatalStatus = .none) (h : s.Sound) :
    ∃ t, s.recvFrame now f = .ok t ∧ t.Sound := by
  cases f with
  | data n r a d => exact h.recvData n r d
  | ack p n a => exact h.recvAck p n
  | nak p n a => exact h.recvNak p n
  | rst => exact ⟨_, rfl, h⟩
  | rstack v r => exact ⟨_, rfl, h.recvRstack v r hf⟩
  | error v e => exact ⟨_, rfl, h.raiseFatal (by decide) .ncpError e⟩

theorem State.Sound.receiveFrame (raw : List Byte) (ovf : Bool) (hf : s.fatalStatus = .none) (h : s.Sound) :
    ∃ t, s.receiveFrame raw ovf now = .ok t ∧ t.Sound := by
  unfold State.receiveFrame
  split
  · exact h.recvFrame _ hf
  · exact ⟨_, rfl, h.frameRejected _⟩

theorem State.Sound.receiveAll (frames : List (List Byte × Bool)) (h : s.Sound) :
    ∃ t, s.receiveAll now frames = .ok t ∧ t.Sound := by
  obtain ⟨t, ht⟩ := receiveAll_answers State.Sound (now := now)
    (fun raw ovf x hx hf => hx.receiveFrame raw ovf hf) frames h
  refine ⟨t, ht, receiveAll_preserves State.Sound (fun raw ovf x y hx hf hy => ?_) h ht⟩
  obtain ⟨z, hz, hsound⟩ := hx.receiveFrame (now := now) raw ovf hf
  obtain rfl := Except.ok.inj (hz.symm.trans hy)
  exact hsound

/-! ### The timer checks (R236, R240, R293) -/

theorem State.Sound.startTimeoutCheck (now : Time) (h : s.Sound) : (s.startTimeoutCheck now).Sound := by
  unfold State.startTimeoutCheck
  split
  · exact h.raiseFatal (by decide) .resetFail 0
  · exact h

/-- The ACK timer of a session runs only while frames are outstanding, so there are some to send again. -/
theorem State.Sound.ackTimeoutCheck (now : Time) (h : s.Sound) : (s.ackTimeoutCheck now).Sound := by
  unfold State.ackTimeoutCheck
  split
  · next hdue =>
    simp only [Timer.expired, Bool.and_eq_true] at hdue
    obtain ⟨hcon, hrunning, -⟩ := hdue
    have ⟨_, _, hwindow, _⟩ := h
    obtain ⟨-, -, -, htimer⟩ := hwindow hcon
    have hout : s.ackRx ≠ s.frmTx := htimer hrunning
    split
    · exact State.Sound.raiseFatal (s := s.countTimeout) (by decide) .timeouts 0 h
    · obtain ⟨howned, htxK, hwindow', hidle⟩ := State.Sound.startRetransmit (s := s.countTimeout) h hout
      refine ⟨howned, htxK, fun hcon' => ?_, hidle⟩
      obtain ⟨hlength, hle, hmode, -⟩ := hwindow' hcon'
      exact ⟨hlength, hle, hmode, fun _ => hout⟩
  · exact h

theorem State.Sound.nrTimerCheck (now : Time) (h : s.Sound) : (s.nrTimerCheck now).Sound := by
  unfold State.nrTimerCheck
  split
  · exact h
  · exact h

/-! ### The loop of the tick (R200, R202) -/

theorem State.Sound.emitNext (h : s.Sound) : s.emitNext.Sound := by
  unfold State.emitNext
  split
  · exact h
  · exact h
  · exact h

theorem State.Sound.pickAck (now : Time) (h : s.Sound) : (s.pickAck now).Sound := by
  rw [pickAck_eq]
  exact h

/-- In retransmission mode the next frame to send again is outstanding (R158, R165). -/
theorem State.WindowSound.dist8_lt (h : s.WindowSound) (hre : s.retransmit = true) :
    dist8 s.ackRx s.frmReTx < dist8 s.ackRx s.frmTx := by
  obtain ⟨-, hle, hmode, -⟩ := h
  exact Nat.lt_of_le_of_ne hle fun heq => hmode hre (dist8_inj heq)

theorem State.WindowSound.lookup (h : s.WindowSound) (hre : s.retransmit = true) :
    ∃ k, s.reTxQueue[dist8 s.ackRx s.frmReTx]? = some k := by
  have hlt := h.dist8_lt hre
  obtain ⟨hlength, -⟩ := h
  exact ⟨_, List.getElem?_eq_getElem (hlength ▸ hlt)⟩

theorem State.Sound.reDataPicked (k : Nat) (hcon : s.connected = true) (hre : s.retransmit = true) (h : s.Sound) :
    (s.reDataPicked k).Sound := by
  obtain ⟨howned, htxK, hwindow, hidle⟩ := h
  have hlt := (hwindow hcon).dist8_lt hre
  obtain ⟨hlength, -, -, htimer⟩ := hwindow hcon
  exact ⟨howned, htxK, fun _ => ⟨hlength, (dist8_succ hlt).trans_le hlt, of_decide_eq_true, htimer⟩, hidle⟩

theorem State.Sound.pickData {k : Nat} {rest : List Nat} (hcon : s.connected = true) (hre : s.retransmit = false)
    (hopen : dist8 s.ackRx s.frmTx < s.cfg.txK) (hq : s.txQueue = k :: rest) (h : s.Sound) :
    (s.pickData k rest).Sound := by
  have ⟨_, htxK, hwindow, _⟩ := h
  obtain ⟨hlength, hle, -, -⟩ := hwindow hcon
  have hlt : dist8 s.ackRx s.frmTx < 7 := hopen.trans_le htxK
  have hsucc : dist8 s.ackRx (s.frmTx + 1) = dist8 s.ackRx s.frmTx + 1 := dist8_succ_of_lt_seven hlt
  have hqueued : (s.reTxQueue ++ [k]).length = s.reTxQueue.length + 1 := List.length_append
  refine h.of_holdings (holdings_pickData s hq) (fun _ => ⟨?_, ?_, fun hmode => ?_, fun _ => ackRx_ne_succ_frmTx hlt⟩)
    (fun hdis => absurd (hcon.symm.trans hdis).symm Bool.false_ne_true)
  · exact hqueued.trans ((congrArg (· + 1) hlength).trans hsucc.symm)
  · exact (Nat.le_succ_of_le hle).trans_eq hsucc.symm
  · exact absurd (hre.symm.trans hmode) Bool.false_ne_true

/-- Selection answers where the lookup of the retransmission does (R202, R206). -/
theorem select_answers (hlookup : s.connected = true → s.retransmit = true →
    ∃ k, s.reTxQueue[dist8 s.ackRx s.frmReTx]? = some k) : ∃ x, s.select now = .ok x := by
  unfold State.select
  split
  · exact ⟨_, rfl⟩
  split
  · exact ⟨_, rfl⟩
  split
  · exact ⟨_, rfl⟩
  split
  · next hmode =>
    obtain ⟨hcon, hre⟩ := Bool.and_eq_true_iff.1 hmode
    obtain ⟨k, hk⟩ := hlookup hcon hre
    rw [pickReData_eq hre hk]
    exact ⟨_, rfl⟩
  split
  · split
    · exact ⟨_, rfl⟩
    · exact ⟨_, rfl⟩
  · exact ⟨_, rfl⟩

theorem State.Sound.select (now : Time) (h : s.Sound) : ∃ x, s.select now = .ok x ∧ x.Leaves State.Sound := by
  have ⟨_, _, hwindow, _⟩ := h
  obtain ⟨x, hx⟩ := select_answers (now := now) fun hcon hre => (hwindow hcon).lookup hre
  exact ⟨x, hx, Selected.leaves_of_select hx h h (h.pickAck now) (fun k hcon hre _ => h.reDataPicked k hcon hre)
    fun _ _ hcon hre hopen hq => h.pickData hcon hre hopen hq⟩

theorem State.Sound.sendLoop (now : Time) (n : Nat) (h : s.Sound) : ∃ t, s.sendLoop now n = .ok t := by
  induction n generalizing s with
  | zero => exact ⟨s, rfl⟩
  | succ n ih =>
    rw [sendLoop_succ]
    split
    · obtain ⟨x, hx, hleaves⟩ := h.select now
      rw [hx]
      cases x with
      | nothing => exact ⟨s, rfl⟩
      | cancel u => exact ih hleaves
      | picked u => exact ih hleaves.1.emitNext
    · exact ih h.emitNext

theorem State.Sound.sendExec (now : Time) (space : Space) (h : s.Sound) : ∃ t, s.sendExec now space = .ok t := by
  unfold State.sendExec
  dsimp only
  split
  · exact ⟨_, rfl⟩
  split
  · exact ⟨_, rfl⟩
  split
  · exact ⟨_, rfl⟩
  obtain ⟨u, hu⟩ := (((h.startTimeoutCheck now).ackTimeoutCheck now).nrTimerCheck now).sendLoop now space.toNat
  exact ⟨_, sendFrames_ok_iff.2 ⟨u, hu, rfl⟩⟩

/-! ### The instructions -/

theorem whenLive_answers {body : State → Result} (hbody : s.live → ∃ u, body s.beginResponse = .ok u) :
    ∃ t, (s.beginResponse.whenLive body).outcome = .next t := by
  by_cases ha : s.active = true
  · by_cases hf : s.fatalStatus = .none
    · obtain ⟨u, hu⟩ := hbody ⟨ha, hf⟩
      exact ⟨_, outcome_whenLive ⟨ha, hf⟩ hu⟩
    · exact ⟨_, congrArg Result.outcome (whenLive_fatal s body ha hf)⟩
  · exact ⟨_, congrArg Result.outcome (whenLive_inactive s body (eq_false_of_ne_true ha))⟩

theorem exec_tick_answers (now : Time) (space : Space) (h : s.Sound) : ∃ t, exec (.tick now space) s = .next t :=
  whenLive_answers fun _ => State.Sound.sendExec (s := s.beginResponse) now space h

theorem exec_rxChunk_answers (now : Time) (space : Space) (chunk : List Byte) (h : s.Sound) :
    ∃ t, exec (.rxChunk now space chunk) s = .next t := by
  refine whenLive_answers fun _ => ?_
  obtain ⟨u, hu, hsound⟩ := State.Sound.receiveAll (s := (s.beginResponse.deframe chunk).2) (now := now)
    (s.beginResponse.deframe chunk).1 h
  simp only [hu]
  exact hsound.sendExec now space

/-- A queued payload's handle has gone from the free-list to `txQueue`. -/
theorem State.Sound.payloadQueued {k : Nat} {fl : List Nat} (p : List Byte) (hfl : s.txFreeList = k :: fl)
    (h : s.Sound) : (s.payloadQueued k fl p).Sound := by
  have hk : (s.payloadQueued k fl p).holdings = s.holdings := by
    simp only [State.payloadQueued, State.holdings, hfl, coe_front_to_back]
  have ⟨_, _, hwindow, hidle⟩ := h
  exact h.of_holdings hk hwindow hidle

theorem exec_send_answers (now : Time) (space : Space) (p : List Byte) (ha : s.connected = true → s.active = true)
    (h : s.Sound) : ∃ t, exec (.send now space p) s = .next t := by
  by_cases hf : s.fatalStatus = .none
  case neg => exact ⟨_, exec_send_fatal hf rfl⟩
  rcases Nat.lt_or_ge p.length s.cfg.minDataLen with hmin | hmin
  · exact ⟨_, exec_send_tooShort hf hmin⟩
  rcases Nat.lt_or_ge s.cfg.maxDataLen p.length with hmax | hmax
  · exact ⟨_, exec_send_tooLong hf hmin hmax⟩
  by_cases hcon : s.connected = true
  case neg => exact ⟨_, exec_send_notConnected hf hmin hmax (eq_false_of_ne_true hcon)⟩
  cases hfl : s.txFreeList with
  | nil => exact ⟨_, exec_send_noTxSpace hf hmin hmax hcon hfl⟩
  | cons k fl =>
    obtain ⟨t, ht⟩ := exec_tick_answers now space (h.payloadQueued p hfl)
    exact ⟨_, exec_send_of_tick ⟨ha hcon, hf⟩ hcon hmin hmax hfl ht⟩

theorem exec_rxPop_answers (hs : s.rxOwned) : ∃ t, exec .rxPop s = .next t := by
  obtain ⟨hnil, -⟩ := rxPopDeliversOldest
  cases hq : s.rxQueue with
  | nil => exact ⟨_, hnil s hq⟩
  | cons k q =>
    have hnodup : (s.rxFreeList ++ k :: q).Nodup := hq ▸ hs.nodup_iff.2 List.nodup_range
    obtain ⟨-, hqueue, hdisjoint⟩ := List.nodup_append.1 hnodup
    exact ⟨_, exec_rxPop_cons hq (fun hfl => hdisjoint k hfl k List.mem_cons_self rfl) (List.nodup_cons.1 hqueue).1⟩

theorem exec_data_answers (now : Time) (f : Seq) (r : Bool) (a : Seq) (p : List Byte) (h : s.Sound) :
    ∃ t, exec (.data now f r a p) s = .next t := by
  refine whenLive_answers fun _ => ?_
  split
  · obtain ⟨u, hu, -⟩ := State.Sound.recvData (s := s.beginResponse) (now := now) (a := a) f r p h
    exact ⟨u, hu⟩
  · exact ⟨_, rfl⟩

theorem exec_ack_answers (now : Time) (p n : Bool) (a : Seq) (h : s.Sound) :
    ∃ t, exec (.ack now p n a) s = .next t := by
  obtain ⟨u, hu, -⟩ := State.Sound.recvAck (s := s.beginResponse) (now := now) (a := a) p n h
  exact whenLive_answers fun _ => ⟨u, hu⟩

theorem exec_nak_answers (now : Time) (p n : Bool) (a : Seq) (h : s.Sound) :
    ∃ t, exec (.nak now p n a) s = .next t := by
  obtain ⟨u, hu, -⟩ := State.Sound.recvNak (s := s.beginResponse) (now := now) (a := a) p n h
  exact whenLive_answers fun _ => ⟨u, hu⟩

theorem exec_answers_of_inv (i : Instr) (hi : s.Inv) : ∃ t, exec i s = .next t := by
  have h := sound_of_inv hi
  cases i with
  | start now space => exact ⟨_, exec_start hi.owned⟩
  | stop => exact ⟨_, exec_stop hi.owned⟩
  | resetNcp => exact ⟨_, exec_resetNcp hi.owned⟩
  | send now space p => exact exec_send_answers now space p (fun hcon => (hi.connected hcon).1) h
  | rxChunk now space chunk => exact exec_rxChunk_answers now space chunk h
  | tick now space => exact exec_tick_answers now space h
  | rxPop => exact exec_rxPop_answers hi.owned.2
  | isConnected => exact ⟨_, rfl⟩
  | isIdle => exact ⟨_, rfl⟩
  | countersRead => exact ⟨_, rfl⟩
  | countersClear => exact ⟨_, rfl⟩
  | data now f r a p => exact exec_data_answers now f r a p h
  | ack now p n a => exact exec_ack_answers now p n a h
  | nak now p n a => exact exec_nak_answers now p n a h
  | rst => exact whenLive_answers fun _ => ⟨_, rfl⟩
  | rstack v r => exact whenLive_answers fun _ => ⟨_, rfl⟩
  | error v e => exact whenLive_answers fun _ => ⟨_, rfl⟩

/-- A rejected input runs nothing that has a precondition (R93, R251, R253). -/
theorem execRejected_answers (e : DecodeError) (s : State) : ∃ t, execRejected e s = .next t := by
  cases e with
  | reservedOpcode op => exact ⟨_, rfl⟩
  | frame r => exact whenLive_answers fun _ => ⟨_, rfl⟩

/-- The invariant does not speak of the inputs that wait. -/
theorem inv_of_fetch {i : Input} (hi : s.Inv) (h : s.fetch = some (i, t)) : t.Inv := by
  unfold State.fetch at h
  split at h <;> cases h
  exact ⟨hi.valid, hi.owned, hi.sequence, hi.send, hi.memory, hi.deframer, hi.timer, hi.connected, hi.disconnected,
    hi.fatal, hi.inactive, hi.flow⟩

theorem step_answers_of_inv (hi : s.Inv) : ∃ t, step s = .next t := by
  unfold step
  rw [if_pos hi.valid]
  cases hfetch : s.fetch with
  | none => exact ⟨s, rfl⟩
  | some p =>
    obtain ⟨i, u⟩ := p
    dsimp only
    cases decode s.cfg i with
    | ok instr => exact exec_answers_of_inv instr (inv_of_fetch hi hfetch)
    | error e => exact execRejected_answers e u

end

/-! ### The obligation -/

/-- Settles O23: every broken precondition is shut out by the part of the invariant that `State.Sound` collects. -/
theorem nothingStopsUnderInvariant : Obligations.NothingStopsUnderInvariant :=
  ⟨fun _ i hi => exec_answers_of_inv i hi, fun _ hi => step_answers_of_inv hi⟩

end Sys2Proof.Machine
end

section
/-!
SUPPORT. Every step keeps the invariant of reachable states (10_state.md §3 to §8, 60_exceptions.md §3,
70_reset_and_hazards.md §1). Inside a command one part of it may be missing: the tick sends fresh DATA before the level
rule at its end starts the ACK timer (R200, R235). One lemma for each operation, in the order of the model's files.
-/

namespace Sys2Proof.Machine

/-- The invariant as it holds inside a command: a session with frames outstanding has its ACK timer running only where
`levelled` says that the level rule has seen to it (R235). -/
structure State.InvIf (levelled : Prop) (s : State) : Prop where
  valid : s.cfg.valid = true
  sound : s.Sound
  window : s.connected = true → dist8 s.ackRx s.frmTx ≤ s.cfg.txK
  timed : levelled → s.connected = true → s.ackRx ≠ s.frmTx → s.ackTimer.running = true
  send : s.sendInv
  memory : s.memoryInv
  deframer : s.deframerInv
  timer : s.timerInv
  connected : s.connectedInv
  disconnected : s.disconnectedInv
  fatal : s.fatalInv
  inactive : s.inactiveInv
  flow : s.flowInv

section

variable {s t : State} {levelled other : Prop} {now : Time} {space : Space} {a : Seq}

theorem State.Inv.invIf (hi : s.Inv) : s.InvIf levelled := by
  refine { hi with sound := sound_of_inv hi, window := fun hcon => ?window, timed := fun _ hcon => ?timed }
  case window =>
    obtain ⟨-, hwindow, -⟩ := hi.sequence hcon
    exact hwindow
  case timed =>
    obtain ⟨-, -, -, -, htimer⟩ := hi.sequence hcon
    exact htimer.2

theorem State.InvIf.inv (h : s.InvIf True) : s.Inv := by
  obtain ⟨howned, -, hwindow, -⟩ := h.sound
  refine { h with owned := howned, sequence := fun hcon => ?_ }
  obtain ⟨hlength, hle, hmode, htimer⟩ := hwindow hcon
  exact ⟨hlength, h.window hcon, (within_iff _ _ _).2 hle, hmode, htimer, h.timed trivial hcon⟩

theorem State.InvIf.of_timed (h : s.InvIf levelled)
    (htimed : other → s.connected = true → s.ackRx ≠ s.frmTx → s.ackTimer.running = true) : s.InvIf other :=
  { h with timed := htimed }

/-- Where there is no session the ACK timer has nothing to run for. -/
theorem State.InvIf.of_not_connected (h : s.InvIf levelled) (hcon : ¬ s.connected = true) : s.InvIf other :=
  h.of_timed fun _ hc => absurd hc hcon

theorem State.InvIf.respond (st : Status) (h : s.InvIf levelled) : (s.respond st).InvIf levelled := { h with }

theorem State.InvIf.beginResponse (h : s.InvIf levelled) : s.beginResponse.InvIf levelled := { h with }

theorem State.InvIf.live_of_connected (h : s.InvIf levelled) (hcon : s.connected = true) : s.live :=
  ⟨(h.connected hcon).1, (h.connected hcon).2.1⟩

/-- What a disconnected block must have clear says nothing of a session. -/
theorem disconnectedInv_of_connected (hcon : s.connected = true) : s.disconnectedInv :=
  fun hdis => absurd (hcon.symm.trans hdis).symm Bool.false_ne_true

theorem fatalInv_of_clear (hf : s.fatalStatus = .none) (hcode : s.fatalCode = .none) (hinfo : s.fatalInfo = 0) :
    s.fatalInv :=
  ⟨fun hset => absurd hf hset, fun _ => ⟨hcode, hinfo⟩⟩

theorem inactiveInv_of_active (ha : s.active = true) : s.inactiveInv :=
  fun hinactive => absurd (ha.symm.trans hinactive).symm Bool.false_ne_true

/-! ### The send machine's registers (R27, R28) -/

theorem sendInv_of_idle (hstate : s.sendState = .idle) (hkind : s.txKind = .none) (hframe : s.txFrame = []) :
    s.sendInv := by
  simp [State.sendInv, hstate, hkind, hframe]

/-- A frame of a legal number of data bytes fits in `txFrame` (R28, R96). -/
theorem length_encodeFrame_le {cfg : Config} (hv : cfg.valid = true) (c : Byte) {d : List Byte}
    (hd : d.length ≤ cfg.bufSize) : (encodeFrame c d).length ≤ 2 * cfg.maxFrameLen + 1 := by
  obtain ⟨-, hle, -⟩ := wireFrameShape c d
  have hmax := maxDataLen_add_three_le hv
  have hbuf : d.length ≤ cfg.maxDataLen := hd
  omega

/-! ### The buffer memories (R33, R62) -/

theorem length_read_le {m : Memory} {n : Nat} (hm : ∀ e ∈ m, e.2.length ≤ n) (h : Nat) : (m.read h).length ≤ n := by
  induction m with
  | nil => exact Nat.zero_le n
  | cons e m ih =>
    obtain ⟨he, hrest⟩ := List.forall_mem_cons.1 hm
    unfold Memory.read
    split
    · exact he
    · exact ih hrest

theorem length_le_of_mem_write {m : Memory} {n h : Nat} {v : List Byte} (hm : ∀ e ∈ m, e.2.length ≤ n)
    (hv : v.length ≤ n) : ∀ e ∈ m.write h v, e.2.length ≤ n := fun e he => by
  rcases mem_write_key he with rfl | hold
  · exact hv
  · exact hm e hold

theorem length_randomize (p : List Byte) : (randomize p).length = p.length := length_randomizeFrom lfsrSeed p

/-! ### The ACK period (R232, R233) -/

/-- The bounds of `ackPeriod` (R32). -/
def PeriodInRange (p : BitVec 12) : Prop := ackTimeMin ≤ p.toNat ∧ p.toNat ≤ ackTimeMax

theorem periodInRange_ofNat {n : Nat} (hmin : ackTimeMin ≤ n) (hmax : n ≤ ackTimeMax) :
    PeriodInRange (BitVec.ofNat 12 n) := by
  have htoNat : (BitVec.ofNat 12 n).toNat = n := by
    rw [BitVec.toNat_ofNat]
    exact Nat.mod_eq_of_lt (hmax.trans_lt (by decide))
  unfold PeriodInRange
  rw [htoNat]
  exact ⟨hmin, hmax⟩

theorem adaptedPeriod_inRange (p : BitVec 12) (e : Nat) : PeriodInRange (adaptedPeriod p e) :=
  periodInRange_ofNat (le_min (le_max_right _ _) (by decide)) (min_le_right _ _)

theorem doubledPeriod_inRange {p : BitVec 12} (hp : PeriodInRange p) : PeriodInRange (doubledPeriod p) := by
  obtain ⟨hmin, -⟩ := hp
  exact periodInRange_ofNat (le_min (by omega) (by decide)) (min_le_right _ _)

/-- After an ACK or at the start of a session no timeout is counted, so the next is not fatal yet (R236, R238). -/
theorem no_timeouts_lt : (0#3).toNat < maxTimeouts := by decide

/-! ### Not-ready flow control (R290 to R292) -/

/-- Not-ready evaluation at the free count makes `notReady` agree with the watermarks, and the refresh timer stops when
the block is ready again. -/
theorem flowInv_of_evaluated (h : s.flowInv) (hnr : t.notReady = notReadyAt t.rxFreeList.length s.notReady)
    (htimer : t.nrTimer = if s.notReady && !t.notReady then { running := false, start := s.nrTimer.start }
      else s.nrTimer) : t.flowInv := by
  obtain ⟨hrun, -, -⟩ := h
  refine ⟨fun hr => ?_, fun _ hlow => ?_, fun _ hhigh => ?_⟩
  · rw [htimer] at hr
    split at hr
    · cases hr
    · next hstays => simpa [hrun hr] using hstays
  · exact hnr.trans (if_pos hlow)
  · have hlow : ¬ t.rxFreeList.length < 8 := Nat.not_lt.2 (by unfold rxHighWatermark at hhigh; omega)
    exact hnr.trans ((if_neg hlow).trans (if_pos hhigh))

/-! ### Named operations -/

/-- The fatal column ends the session and leaves nothing pending (R306). -/
theorem State.InvIf.raiseFatal {status : FatalStatus} {code : FatalCode} (hstatus : status ≠ .none)
    (hcode : code ≠ .none) (info : Byte) (ha : s.active = true) (h : s.InvIf levelled) :
    (s.raiseFatal status code info).InvIf levelled := by
  have hsound := h.sound.raiseFatal hstatus code info
  by_cases hf : s.fatalStatus = .none
  case neg => rwa [raiseFatal_latched s status code info hf]
  rw [raiseFatal_clear s status code info hf] at hsound ⊢
  obtain ⟨hmin, hmax, hcount, -⟩ := h.timer
  obtain ⟨-, hlow, hhigh⟩ := h.flow
  exact { h with
    sound := hsound
    window := nofun
    timed := nofun
    send := sendInv_of_idle rfl rfl rfl
    timer := ⟨hmin, hmax, hcount, fun hclear => absurd hclear hstatus⟩
    connected := nofun
    disconnected := fun _ => ⟨rfl, rfl, rfl, rfl, rfl, fun hclear => absurd hclear hstatus⟩
    fatal := ⟨fun _ => ⟨ha, rfl, rfl, rfl, rfl, rfl, hcode⟩, fun hclear => absurd hclear hstatus⟩
    inactive := inactiveInv_of_active ha
    flow := ⟨nofun, hlow, hhigh⟩ }

/-- A session begins with no frame outstanding and waits for no reset (R270). -/
theorem State.InvIf.connect (hl : s.live) (hcon : s.connected = false) (h : s.InvIf levelled) :
    s.connect.InvIf levelled := by
  have hsound := h.sound.connect hcon hl.2
  rw [connect_eq] at hsound ⊢
  obtain ⟨hmin, hmax, -, -⟩ := h.timer
  obtain ⟨hcode, hinfo⟩ := h.fatal.2 hl.2
  exact { h with
    sound := hsound
    window := fun _ => (dist8_self 0).trans_le (Nat.zero_le _)
    timed := fun _ _ hout => absurd rfl hout
    timer := ⟨hmin, hmax, Nat.zero_le _, fun _ => no_timeouts_lt⟩
    connected := fun _ => ⟨hl.1, hl.2, rfl, rfl, rfl⟩
    disconnected := nofun
    fatal := fatalInv_of_clear hl.2 hcode hinfo
    inactive := inactiveInv_of_active hl.1 }

/-- A bad frame asks for a NAK in a session only (R254). -/
theorem State.InvIf.rejIfData (frame : List Byte) (h : s.InvIf levelled) : (s.rejIfData frame).InvIf levelled := by
  rw [rejIfData_eq]
  refine { h with disconnected := fun hcon => ?_ }
  obtain ⟨hack, hnak, hrest⟩ := h.disconnected hcon
  have hdis : s.connected = false := hcon
  exact ⟨hack, by simp [hnak, hdis], hrest⟩

/-! ### The receive machine -/

theorem State.InvIf.frameRejected (r : FrameReject) (ha : s.active = true) (h : s.InvIf levelled) :
    (s.frameRejected r).InvIf levelled := by
  cases r with
  | badCrc f => exact State.InvIf.rejIfData (s := s.countCrcError) f { h with }
  | commError f => exact State.InvIf.rejIfData (s := s.countCommError) f { h with }
  | tooShort f => exact State.InvIf.rejIfData (s := s.countTooShort) f { h with }
  | tooLong f => exact State.InvIf.rejIfData (s := s.countTooLong) f { h with }
  | illegal c d => exact State.InvIf.rejIfData (s := s.countBadFrame) (c :: d) { h with }
  | xonXoff => exact h.raiseFatal (by decide) (by decide) 0 ha
  | cancelled => exact h
  | empty => exact h

/-- The window gets smaller, and its timer runs on for what is left of it (R234, R257). -/
theorem State.InvIf.acked (now : Time) (ha : s.CanTakeAck a) (h : s.InvIf levelled) :
    (s.acked a now).InvIf levelled := by
  have hsound := h.sound.acked now ha
  obtain ⟨hcon, hvalid, -, -⟩ := ha
  have hle : dist8 s.ackRx a ≤ dist8 s.ackRx s.frmTx := (within_iff _ _ _).1 hvalid
  by_cases hsame : a = s.ackRx
  case pos => rwa [State.acked, if_pos hsame]
  rw [State.acked, if_neg hsame] at hsound ⊢
  have hperiod : PeriodInRange (s.ackColumn a now).ackPeriod := by
    obtain ⟨hmin, hmax, -, -⟩ := h.timer
    show PeriodInRange (if s.ackTimer.running then _ else _)
    split
    · exact adaptedPeriod_inRange _ _
    · exact ⟨hmin, hmax⟩
  have hrunning (hout : a ≠ s.frmTx) : (s.ackColumn a now).ackTimer.running = true := by
    rw [State.ackColumn, if_neg hout]
  exact { h with
    sound := hsound
    window := fun _ => (dist8_sub hle).trans_le ((Nat.sub_le _ _).trans (h.window hcon))
    timed := fun _ _ => hrunning
    timer := ⟨hperiod.1, hperiod.2, Nat.zero_le _, fun _ => no_timeouts_lt⟩
    disconnected := disconnectedInv_of_connected hcon }

/-- An accepted payload fits in its buffer, and not-ready is evaluated at the free count it leaves (R262, R291). -/
theorem State.InvIf.acceptData {payload : List Byte} (hcon : s.connected = true)
    (hp : payload.length ≤ s.cfg.bufSize) (h : s.InvIf levelled) : (s.acceptData payload).InvIf levelled := by
  have hsound := h.sound.acceptData payload
  cases hfl : s.rxFreeList with
  | nil =>
    rw [acceptData_nil s payload hfl]
    exact { h with disconnected := disconnectedInv_of_connected hcon }
  | cons k fl =>
    rw [acceptData_cons s payload hfl] at hsound ⊢
    obtain ⟨htx, hrx, htxLength, hrxLength⟩ := h.memory
    exact { h with
      sound := hsound
      memory := ⟨htx, write_wf k _ hrx, htxLength,
        length_le_of_mem_write hrxLength ((length_randomize payload).trans_le hp)⟩
      disconnected := disconnectedInv_of_connected hcon
      inactive := inactiveInv_of_active (h.connected hcon).1
      flow := flowInv_of_evaluated h.flow rfl rfl }

theorem State.InvIf.dataFrame (f : Seq) (r : Bool) {payload : List Byte} (hcon : s.connected = true)
    (hp : payload.length ≤ s.cfg.bufSize) (h : s.InvIf levelled) : (s.dataFrame f r payload).InvIf levelled := by
  unfold State.dataFrame
  split
  · exact h.acceptData hcon hp
  · split
    · exact { h with disconnected := disconnectedInv_of_connected hcon }
    · rw [outOfSequence_eq]
      exact { h with disconnected := disconnectedInv_of_connected hcon }

theorem State.InvIf.startRetransmit (hcon : s.connected = true) (hout : s.ackRx ≠ s.frmTx) (h : s.InvIf levelled) :
    s.startRetransmit.InvIf levelled :=
  { h with sound := h.sound.startRetransmit hout, disconnected := disconnectedInv_of_connected hcon }

theorem State.InvIf.nakFrame (hcon : s.connected = true) (h : s.InvIf levelled) : s.nakFrame.InvIf levelled := by
  unfold State.nakFrame
  split
  · next hmode =>
    simp only [Bool.and_eq_true, bne_iff_ne] at hmode
    exact h.startRetransmit hcon hmode.2
  · exact h

theorem State.InvIf.setPeerNotReady (n : Bool) (h : s.InvIf levelled) :
    State.InvIf levelled { s with peerNotReady := n } := { h with }

theorem State.InvIf.recvData {f : Seq} {r : Bool} {p : List Byte} (hp : p.length ≤ s.cfg.bufSize)
    (h : s.InvIf levelled) (ht : s.recvData now f r a p = .ok t) : t.InvIf levelled := by
  by_cases hcon : s.connected = true
  · by_cases ha : s.ackValid a = true
    · have hack := h.sound.canTakeAck hcon ha
      cases (recvData_ok f r p hack).symm.trans ht
      exact (h.acked now hack).dataFrame f r (acked_connected.trans hcon) (acked_cfg (s := s) ▸ hp)
    · cases (recvData_badAckNum s now f r p hcon (eq_false_of_ne_true ha)).symm.trans ht
      exact { h with disconnected := disconnectedInv_of_connected hcon }
  · simp only [State.recvData, hcon] at ht
    cases ht
    exact h

theorem State.InvIf.recvAck (p : Bool) {n : Bool} (h : s.InvIf levelled) (ht : s.recvAck now p n a = .ok t) :
    t.InvIf levelled := by
  by_cases hcon : s.connected = true
  · by_cases ha : s.ackValid a = true
    · have hack := h.sound.canTakeAck hcon ha
      cases (recvAck_ok p n hack).symm.trans ht
      exact (h.setPeerNotReady n).acked now hack
    · cases (recvAck_badAckNum s now p n hcon (eq_false_of_ne_true ha)).symm.trans ht
      exact { h with }
  · simp only [State.recvAck, hcon] at ht
    cases ht
    exact h

theorem State.InvIf.recvNak (p : Bool) {n : Bool} (h : s.InvIf levelled) (ht : s.recvNak now p n a = .ok t) :
    t.InvIf levelled := by
  by_cases hcon : s.connected = true
  · by_cases ha : s.ackValid a = true
    · have hack := h.sound.canTakeAck hcon ha
      cases (recvNak_ok p n hack).symm.trans ht
      exact (State.InvIf.acked (s := { s with peerNotReady := n }) now hack (h.setPeerNotReady n)).nakFrame
        (acked_connected.trans hcon)
    · cases (recvNak_badAckNum s now p n hcon (eq_false_of_ne_true ha)).symm.trans ht
      exact { h with }
  · simp only [State.recvNak, hcon] at ht
    cases ht
    exact h

theorem State.InvIf.recvRstack (v r : Byte) (hl : s.live) (h : s.InvIf levelled) :
    (s.recvRstack v r).InvIf levelled := by
  unfold State.recvRstack
  split
  · exact h.raiseFatal (by decide) (by decide) r hl.1
  next hcon =>
  split
  · exact h.raiseFatal (by decide) (by decide) 0 hl.1
  split
  · exact h.connect hl (eq_false_of_ne_true hcon)
  · exact h

theorem State.InvIf.recvError (v e : Byte) (ha : s.active = true) (h : s.InvIf levelled) :
    (s.recvError v e).InvIf levelled :=
  h.raiseFatal (by decide) (by decide) e ha

/-- The greatest legal payload fills a buffer (R8, R85). -/
theorem length_le_bufSize_of_lengthOk {cfg : Config} {p : List Byte} (h : lengthOk cfg .data (1 + p.length) = true) :
    p.length ≤ cfg.bufSize := by
  simp only [lengthOk, Bool.and_eq_true, decide_eq_true_eq] at h
  exact Nat.le_of_add_le_add_left h.2

theorem State.InvIf.receiveFrame {raw : List Byte} {ovf : Bool} (hl : s.live) (h : s.InvIf levelled)
    (ht : s.receiveFrame raw ovf now = .ok t) : t.InvIf levelled := by
  unfold State.receiveFrame at ht
  split at ht
  case h_2 r hr => cases ht; exact h.frameRejected r hl.1
  case h_1 f hf =>
    cases f with
    | data n r a d => exact h.recvData (length_le_bufSize_of_lengthOk (lengthOk_of_decodeRaw hf)) ht
    | ack p n a => exact h.recvAck p ht
    | nak p n a => exact h.recvNak p ht
    | rst => cases ht; exact h
    | rstack v r => cases ht; exact h.recvRstack v r hl
    | error v e => cases ht; exact h.recvError v e hl.1

end

/-! ### The deframer (R36, R141 to R143) -/

section

variable {rawMax : Nat} {d : Deframer}

/-- The register keeps its bound, says when it overflowed, and holds no FLAG and no CANCEL (R36). -/
def Deframer.Sound (rawMax : Nat) (d : Deframer) : Prop :=
  d.held.length ≤ rawMax ∧ (d.overflow = true → d.held.length = rawMax) ∧ flagByte ∉ d.held ∧ cancelByte ∉ d.held

theorem Deframer.sound_clear (rawMax : Nat) : Deframer.clear.Sound rawMax :=
  ⟨Nat.zero_le _, nofun, List.not_mem_nil, List.not_mem_nil⟩

theorem Deframer.Sound.push {b : Byte} (hflag : b ≠ flagByte) (hcancel : b ≠ cancelByte) (h : d.Sound rawMax) :
    (d.push rawMax b).Sound rawMax := by
  obtain ⟨hlength, hfull, hnoFlag, hnoCancel⟩ := h
  unfold Deframer.push
  split
  · next hroom =>
    have hextended : (d.held ++ [b]).length = d.held.length + 1 := List.length_append
    refine ⟨hextended.trans_le hroom, fun hoverflow => absurd (hfull hoverflow) hroom.ne, ?_, ?_⟩
    · simp [hnoFlag, hflag.symm]
    · simp [hnoCancel, hcancel.symm]
  · next hnoRoom => exact ⟨hlength, fun _ => le_antisymm hlength (Nat.le_of_not_lt hnoRoom), hnoFlag, hnoCancel⟩

theorem Deframer.Sound.bytes {bs : List Byte} (hcancel : cancelByte ∉ bs) (h : d.Sound rawMax) :
    (Deframer.bytes rawMax bs d).2.Sound rawMax := by
  induction bs generalizing d with
  | nil => exact h
  | cons b bs ih =>
    obtain ⟨hb, hbs⟩ := not_or.1 (List.mem_cons.not.1 hcancel)
    unfold Deframer.bytes
    split
    · exact ih hbs (Deframer.sound_clear rawMax)
    · next hflag => exact ih hbs (h.push hflag (Ne.symm hb))

/-- What is left of a chunk after its last CANCEL holds none, and neither does a chunk that is not cut. -/
theorem cancel_not_mem_afterLastCancel (chunk : List Byte) :
    cancelByte ∉ (afterLastCancel chunk).getD chunk := by
  induction chunk with
  | nil => exact List.not_mem_nil
  | cons b bs ih =>
    unfold afterLastCancel
    cases hbs : afterLastCancel bs with
    | some rest => simpa [hbs] using ih
    | none =>
      rw [hbs] at ih
      dsimp only
      split
      · exact ih
      · next hb => exact List.mem_cons.not.2 (not_or.2 ⟨Ne.symm hb, ih⟩)

theorem Deframer.Sound.chunk (chunk : List Byte) (h : d.Sound rawMax) :
    (Deframer.chunk rawMax d chunk).2.Sound rawMax := by
  have hcancel := cancel_not_mem_afterLastCancel chunk
  unfold Deframer.chunk
  cases hcut : afterLastCancel chunk with
  | some rest => rw [hcut] at hcancel; exact (Deframer.sound_clear rawMax).bytes hcancel
  | none => rw [hcut] at hcancel; exact h.bytes hcancel

end

section

variable {s t : State} {levelled : Prop} {now : Time} {space : Space}

theorem State.InvIf.deframe (chunk : List Byte) (h : s.InvIf levelled) : (s.deframe chunk).2.InvIf levelled :=
  { h with deframer := Deframer.Sound.chunk (d := s.deframer) chunk h.deframer }

/-- What does not look at `active` does not write it. -/
theorem active_of_shellFree {f : State → State} (hf : ∀ α, ShellFree α id f) (s : State) :
    (f s).active = s.active := by
  have hkeep : f s = (f s).mapShell (fun _ => s.active) id := hf (fun _ => s.active) s
  rw [hkeep]
  rfl

theorem active_of_receiveFrame {raw : List Byte} {ovf : Bool} (ht : s.receiveFrame raw ovf now = .ok t) :
    t.active = s.active := by
  have hfree := shellFree_receiveFrame (α := fun _ => s.active) (φ := id) (fun _ _ => rfl) raw ovf now
  have hkeep := mapShell_eq_of_ok hfree rfl ht
  exact (congrArg State.active hkeep).symm

/-- The timer checks leave `active` alone. -/
theorem active_timerChecks (now : Time) (s : State) :
    (((s.startTimeoutCheck now).ackTimeoutCheck now).nrTimerCheck now).active = s.active := by
  rw [active_of_shellFree fun _ => shellFree_nrTimerCheck now,
    active_of_shellFree fun _ => shellFree_ackTimeoutCheck (fun _ _ => rfl) now,
    active_of_shellFree fun _ => shellFree_startTimeoutCheck (fun _ _ => rfl) now]

theorem fatalStatus_nrTimerCheck (now : Time) (s : State) : (s.nrTimerCheck now).fatalStatus = s.fatalStatus :=
  (latch_eq_iff.1 (latch_nrTimerCheck now s)).1

theorem State.InvIf.receiveAll {frames : List (List Byte × Bool)} (ha : s.active = true) (h : s.InvIf levelled)
    (ht : s.receiveAll now frames = .ok t) : t.InvIf levelled := by
  have key : t.active = true ∧ t.InvIf levelled := by
    refine receiveAll_preserves (fun x => x.active = true ∧ x.InvIf levelled) (fun raw ovf x y hx hf hy => ?_)
      ⟨ha, h⟩ ht
    obtain ⟨hactive, hinv⟩ := hx
    exact ⟨(active_of_receiveFrame hy).trans hactive, hinv.receiveFrame ⟨hactive, hf⟩ hy⟩
  exact key.2

/-! ### The timer checks (R236, R240, R293) -/

theorem State.InvIf.startTimeoutCheck (now : Time) (ha : s.active = true) (h : s.InvIf levelled) :
    (s.startTimeoutCheck now).InvIf levelled := by
  unfold State.startTimeoutCheck
  split
  · exact h.raiseFatal (by decide) (by decide) 0 ha
  · exact h

/-- Before the fatal timeout fewer than the allowed ones are counted, so the count of one more does not wrap (R236). -/
theorem countTimeout_toNat (hcount : s.timeouts.toNat < maxTimeouts) :
    s.countTimeout.timeouts.toNat = s.timeouts.toNat + 1 := by
  have hsum : s.countTimeout.timeouts.toNat = (s.timeouts.toNat + 1) % 8 := BitVec.toNat_add s.timeouts 1
  unfold maxTimeouts at hcount
  omega

/-- A timeout doubles the period within its bounds; the last one allowed is fatal, any other restarts the timer. -/
theorem State.InvIf.ackTimeoutCheck (now : Time) (h : s.InvIf levelled) : (s.ackTimeoutCheck now).InvIf levelled := by
  have hsound := h.sound.ackTimeoutCheck now
  unfold State.ackTimeoutCheck at hsound ⊢
  split
  case isFalse => exact h
  case isTrue hdue =>
    rw [if_pos hdue] at hsound
    simp only [Bool.and_eq_true] at hdue
    obtain ⟨hcon, -⟩ := hdue
    obtain ⟨hactive, hclear⟩ := h.live_of_connected hcon
    obtain ⟨hmin, hmax, -, hcount⟩ := h.timer
    have hperiod : PeriodInRange s.countTimeout.ackPeriod := doubledPeriod_inRange ⟨hmin, hmax⟩
    have htimeouts := countTimeout_toNat (hcount hclear)
    have hle : s.countTimeout.timeouts.toNat ≤ maxTimeouts := htimeouts.trans_le (hcount hclear)
    split
    · have hfatal := h.raiseFatal (status := .hostFatalError) (code := .timeouts) (by decide) (by decide) 0 hactive
      rw [raiseFatal_clear s _ _ _ hclear] at hfatal
      rw [raiseFatal_clear s.countTimeout _ _ _ hclear]
      exact { hfatal with timer := ⟨hperiod.1, hperiod.2, hle, nofun⟩ }
    · next hnotLast =>
      rw [if_neg hnotLast] at hsound
      exact { h with
        sound := hsound
        timed := fun _ _ _ => rfl
        timer := ⟨hperiod.1, hperiod.2, hle, fun _ => Nat.lt_of_not_le hnotLast⟩
        disconnected := disconnectedInv_of_connected hcon }

theorem State.InvIf.nrTimerCheck (now : Time) (h : s.InvIf levelled) : (s.nrTimerCheck now).InvIf levelled := by
  unfold State.nrTimerCheck
  split
  · next hdue =>
    simp only [Bool.and_eq_true] at hdue
    obtain ⟨-, hlow, hhigh⟩ := h.flow
    exact { h with disconnected := disconnectedInv_of_connected hdue.1, flow := ⟨nofun, hlow, hhigh⟩ }
  · exact h

/-! ### The loop of the tick (R200, R202) -/

/-- What the loop keeps: the level rule comes after it. -/
def State.InLoop (s : State) : Prop := s.InvIf False ∧ s.live

theorem State.InLoop.fatalInv (h : s.InLoop) (hf : t.fatalStatus = s.fatalStatus) (hcode : t.fatalCode = s.fatalCode)
    (hinfo : t.fatalInfo = s.fatalInfo) : t.fatalInv := by
  obtain ⟨hinv, hl⟩ := h
  obtain ⟨hc, hi⟩ := hinv.fatal.2 hl.2
  exact fatalInv_of_clear (hf.trans hl.2) (hcode.trans hc) (hinfo.trans hi)

theorem State.InLoop.emitNext (h : s.InLoop) : s.emitNext.InLoop := by
  have ⟨hinv, hl⟩ := h
  unfold State.emitNext
  split
  · exact h
  · exact ⟨{ hinv with
      send := sendInv_of_idle rfl rfl rfl
      fatal := h.fatalInv rfl rfl rfl
      inactive := inactiveInv_of_active hl.1 }, hl⟩
  · next b b' rest hframe =>
    have hne : s.txFrame ≠ [] := by simp [hframe]
    obtain ⟨hstate, hkind, hdata, hredata, hlength⟩ := hinv.send
    have hrest : (b' :: rest).length ≤ s.txFrame.length := by simp [hframe]
    exact ⟨{ hinv with
      send := ⟨iff_of_false (hstate.not.2 hne) (List.cons_ne_nil _ _),
        iff_of_false (hkind.not.2 hne) (List.cons_ne_nil _ _), hdata, hredata, hrest.trans hlength⟩
      fatal := h.fatalInv rfl rfl rfl
      inactive := inactiveInv_of_active hl.1 }, hl⟩

theorem State.InLoop.emitCancel (h : s.InLoop) : s.emitCancel.InLoop := by
  have ⟨hinv, hl⟩ := h
  refine ⟨{ hinv with
    connected := fun hcon => ?_
    fatal := h.fatalInv rfl rfl rfl
    inactive := inactiveInv_of_active hl.1 }, hl⟩
  obtain ⟨ha, hf, hstart, -, hrst⟩ := hinv.connected hcon
  exact ⟨ha, hf, hstart, rfl, hrst⟩

/-- A short frame has no data bytes, so it fits under every configuration (R84, R96). -/
theorem State.InLoop.length_shortFrame_le (h : s.InLoop) (c : Byte) :
    (encodeFrame c []).length ≤ 2 * s.cfg.maxFrameLen + 1 :=
  length_encodeFrame_le h.1.valid c (Nat.zero_le _)

theorem State.InLoop.length_dataFrame_le (h : s.InLoop) (c : Byte) (k : Nat) :
    (encodeFrame c (s.txBuffers.read k)).length ≤ 2 * s.cfg.maxFrameLen + 1 := by
  obtain ⟨-, -, htx, -⟩ := h.1.memory
  exact length_encodeFrame_le h.1.valid c (length_read_le htx k)

theorem State.InLoop.pickRst (h : s.InLoop) : s.pickRst.InLoop := by
  have ⟨hinv, hl⟩ := h
  have hne := encodeFrame_ne_nil rstControl []
  refine ⟨{ hinv with
    send := ⟨iff_of_false nofun hne, iff_of_false nofun hne, iff_of_false nofun nofun, iff_of_false nofun nofun,
      h.length_shortFrame_le _⟩
    connected := fun hcon => ?_
    fatal := h.fatalInv rfl rfl rfl
    inactive := inactiveInv_of_active hl.1 }, hl⟩
  obtain ⟨ha, hf, hstart, hcancel, -⟩ := hinv.connected hcon
  exact ⟨ha, hf, hstart, hcancel, rfl⟩

/-- A frame that says not ready is the only one to start the refresh timer (R241). -/
theorem State.InLoop.pickAck (now : Time) (hcon : s.connected = true) (h : s.InLoop) : (s.pickAck now).InLoop := by
  have ⟨hinv, hl⟩ := h
  rw [pickAck_eq]
  have hne : s.ackWire ≠ [] := encodeFrame_ne_nil _ _
  obtain ⟨hrun, hlow, hhigh⟩ := hinv.flow
  refine ⟨{ hinv with
    send := ⟨iff_of_false nofun hne, iff_of_false ?_ hne, iff_of_false nofun ?_, iff_of_false nofun ?_,
      h.length_shortFrame_le _⟩
    disconnected := disconnectedInv_of_connected hcon
    fatal := h.fatalInv rfl rfl rfl
    inactive := inactiveInv_of_active hl.1
    flow := ⟨fun hr => ?_, hlow, hhigh⟩ }, hl⟩
  case refine_1 => dsimp only; split <;> nofun
  case refine_2 => dsimp only; split <;> nofun
  case refine_3 => dsimp only; split <;> nofun
  case refine_4 =>
    dsimp only at hr
    split at hr
    · next hstarts => exact (Bool.and_eq_true_iff.1 hstarts).1
    · exact hrun hr

theorem State.InLoop.reDataPicked (k : Nat) (hcon : s.connected = true) (hre : s.retransmit = true) (h : s.InLoop) :
    (s.reDataPicked k).InLoop := by
  have ⟨hinv, hl⟩ := h
  have hne : (s.reDataPicked k).txFrame ≠ [] := encodeFrame_ne_nil _ _
  exact ⟨{ hinv with
    sound := hinv.sound.reDataPicked k hcon hre
    send := ⟨iff_of_false nofun hne, iff_of_false nofun hne, iff_of_false nofun nofun, iff_of_true rfl rfl,
      h.length_dataFrame_le _ _⟩
    disconnected := disconnectedInv_of_connected hcon
    fatal := h.fatalInv rfl rfl rfl
    inactive := inactiveInv_of_active hl.1 }, hl⟩

/-- Fresh DATA goes out through an open window only (R207); its timer is left to the level rule (R235). -/
theorem State.InLoop.pickData {k : Nat} {rest : List Nat} (hcon : s.connected = true) (hre : s.retransmit = false)
    (hopen : dist8 s.ackRx s.frmTx < s.cfg.txK) (hq : s.txQueue = k :: rest) (h : s.InLoop) :
    (s.pickData k rest).InLoop := by
  have ⟨hinv, hl⟩ := h
  have hne : (s.pickData k rest).txFrame ≠ [] := encodeFrame_ne_nil _ _
  have hsucc : dist8 s.ackRx (s.frmTx + 1) = dist8 s.ackRx s.frmTx + 1 :=
    dist8_succ_of_lt_seven (hopen.trans_le (txK_le_seven hinv.valid))
  exact ⟨{ hinv with
    sound := hinv.sound.pickData hcon hre hopen hq
    window := fun _ => hsucc.trans_le hopen
    timed := nofun
    send := ⟨iff_of_false nofun hne, iff_of_false nofun hne, iff_of_true rfl rfl, iff_of_false nofun nofun,
      h.length_dataFrame_le _ _⟩
    disconnected := disconnectedInv_of_connected hcon
    fatal := h.fatalInv rfl rfl rfl
    inactive := inactiveInv_of_active hl.1 }, hl⟩

theorem State.InLoop.select {x : Selected} (h : s.InLoop) (hx : s.select now = .ok x) : x.Leaves State.InLoop := by
  rcases select_cases hx with ⟨-, rfl⟩ | ⟨-, -, rfl⟩ | ⟨-, -, hcon, -, rfl⟩ |
    ⟨-, -, hcon, -, -, hre, k, u, hk, hu, rfl, -⟩ | ⟨-, -, hcon, -, -, hre, hopen, k, rest, hq, rfl⟩ | ⟨-, -, -, rfl⟩
  case inl => exact h.emitCancel
  case inr.inl => exact ⟨h.pickRst, encodeFrame_ne_nil _ _⟩
  case inr.inr.inl => exact ⟨h.pickAck now hcon, by rw [pickAck_eq]; exact encodeFrame_ne_nil _ _⟩
  case inr.inr.inr.inl =>
    rw [pickReData_eq hre hk, Except.ok.injEq] at hu
    exact hu ▸ ⟨h.reDataPicked k hcon hre, encodeFrame_ne_nil _ _⟩
  case inr.inr.inr.inr.inl => exact ⟨h.pickData hcon hre hopen hq, encodeFrame_ne_nil _ _⟩
  case inr.inr.inr.inr.inr => exact trivial

theorem State.InLoop.sendLoop {n : Nat} (h : s.InLoop) (ht : s.sendLoop now n = .ok t) : t.InLoop :=
  sendLoop_preserves State.InLoop (fun _ hx _ => hx.emitNext) (fun _ _ hx _ hy => hx.select hy)
    (fun _ _ hx _ hy => hx.select hy) h ht

/-! ### The tick (R200) -/

/-- The level rule starts the ACK timer where frames are outstanding, and only there (R235). -/
theorem State.InLoop.inv_levelled (now : Time) (h : s.InLoop) : (s.setAckTimer (s.levelled now)).Inv := by
  obtain ⟨hinv, -⟩ := h
  by_cases hstarts : s.connected = true ∧ s.ackRx ≠ s.frmTx
  · obtain ⟨hcon, hout⟩ := hstarts
    have hrunning : (s.levelled now).running = true := by
      rw [levelled_of_outstanding hcon hout]
      split
      · next hr => exact hr
      · rfl
    obtain ⟨howned, htxK, hwindow, hidle⟩ := hinv.sound
    obtain ⟨hlength, hle, hmode, -⟩ := hwindow hcon
    refine State.InvIf.inv { hinv with
      sound := ⟨howned, htxK, fun _ => ⟨hlength, hle, hmode, fun _ => hout⟩, hidle⟩
      timed := fun _ _ _ => hrunning
      disconnected := disconnectedInv_of_connected hcon }
  · have hsame : s.levelled now = s.ackTimer := by
      rcases not_and_or.1 hstarts with hcon | hnone
      · exact levelled_of_not_connected (eq_false_of_ne_true hcon)
      · exact levelled_of_none_outstanding (not_not.1 hnone)
    rw [hsame]
    exact (hinv.of_timed fun _ hcon hout => absurd ⟨hcon, hout⟩ hstarts).inv

theorem State.InLoop.sendFrames (h : s.InLoop) (ht : s.sendFrames now space = .ok t) : t.Inv := by
  obtain ⟨u, hu, rfl⟩ := sendFrames_ok_iff.1 ht
  exact (h.sendLoop hu).inv_levelled now

theorem State.InvIf.inv_of_not_live (h : s.InvIf levelled) (hl : ¬ s.live) : s.Inv :=
  (h.of_not_connected fun hcon => hl (h.live_of_connected hcon)).inv

theorem State.InvIf.sendExec (h : s.InvIf levelled) (ht : s.sendExec now space = .ok t) : t.Inv := by
  by_cases hl : s.live
  case neg =>
    cases (sendExec_notLive s hl).symm.trans ht
    exact h.inv_of_not_live hl
  have hstart := h.startTimeoutCheck now hl.1
  have hack := hstart.ackTimeoutCheck now
  rw [State.sendExec, if_neg (by simp [hl.1, hl.2])] at ht
  dsimp only at ht
  split at ht
  · next hfatal => cases ht; exact hstart.inv_of_not_live fun hlive => hfatal hlive.2
  split at ht
  · next hfatal => cases ht; exact hack.inv_of_not_live fun hlive => hfatal hlive.2
  · next hclear =>
    have hloop : State.InLoop (((s.startTimeoutCheck now).ackTimeoutCheck now).nrTimerCheck now) :=
      ⟨(hack.nrTimerCheck now).of_timed nofun, (active_timerChecks now s).trans hl.1,
        (fatalStatus_nrTimerCheck now _).trans (not_not.1 hclear)⟩
    exact hloop.sendFrames ht

/-! ### The resets (R331) -/

theorem timerInv_of_initial (hperiod : s.ackPeriod = BitVec.ofNat 12 ackTimeInit) (hcount : s.timeouts = 0) :
    s.timerInv := by
  obtain ⟨hmin, hmax⟩ := periodInRange_ofNat (n := ackTimeInit) (by decide) (by decide)
  rw [State.timerInv, hperiod, hcount]
  exact ⟨hmin, hmax, Nat.zero_le _, fun _ => no_timeouts_lt⟩

/-- The column "arm" drains the queues, so that not-ready is evaluated at the whole receive pool (R290, R331). -/
theorem State.Inv.armed (hi : s.Inv) : s.armed.Inv := by
  obtain ⟨-, hrxOwned⟩ := hi.owned
  have hfree : s.armed.rxFreeList.length = s.cfg.rxPoolSize := by
    rw [← List.length_range (n := s.cfg.rxPoolSize), ← hrxOwned.length_eq]
    rfl
  have hnotLow (hhigh : rxHighWatermark < s.armed.rxFreeList.length) : ¬ s.armed.rxFreeList.length < 8 :=
    Nat.not_lt.2 (by unfold rxHighWatermark at hhigh; omega)
  exact { hi with
    owned := owned_of_holdings_eq (holdings_resetColumn s) hi.owned
    sequence := nofun
    send := sendInv_of_idle rfl rfl rfl
    deframer := Deframer.sound_clear s.cfg.rawMax
    timer := timerInv_of_initial rfl rfl
    connected := nofun
    disconnected := fun _ => ⟨rfl, rfl, rfl, rfl, rfl, fun _ => ⟨rfl, rfl, rfl⟩⟩
    fatal := fatalInv_of_clear rfl rfl rfl
    inactive := inactiveInv_of_active rfl
    flow := ⟨nofun, fun _ hlow => decide_eq_true (hfree ▸ hlow),
      fun _ hhigh => decide_eq_false (hfree ▸ hnotLow hhigh)⟩ }

/-! ### The instructions -/

theorem State.Inv.setResponse (r : Response) (hi : s.Inv) : State.Inv { s with resp := r } := { hi with }

theorem State.Inv.begun (hi : s.Inv) : s.beginResponse.InvIf True := hi.invIf.beginResponse

theorem State.Inv.whenLive {body : State → Result} (hi : s.Inv)
    (hbody : s.beginResponse.live → ∀ u, body s.beginResponse = .ok u → u.Inv)
    (h : (s.beginResponse.whenLive body).outcome = .next t) : t.Inv := by
  rw [outcome_next_iff] at h
  by_cases ha : s.active = true
  case neg =>
    cases (whenLive_inactive s body (eq_false_of_ne_true ha)).symm.trans h
    exact hi.setResponse _
  by_cases hf : s.fatalStatus = .none
  case neg =>
    cases (whenLive_fatal s body ha hf).symm.trans h
    exact hi.setResponse _
  rw [whenLive_live s body ⟨ha, hf⟩] at h
  split at h
  · cases h
  · next u hu =>
    cases h
    exact (hbody ⟨ha, hf⟩ u hu).setResponse _

theorem inv_execStart (hi : s.Inv) (h : execStart now space s = .next t) : t.Inv := by
  rw [execStart, arm_beginResponse hi.owned, outcome_next_iff] at h
  have hwaiting : State.Inv { s.armed with startPending := true, startTime := now } :=
    { hi.armed with
      connected := nofun
      fatal := fatalInv_of_clear rfl rfl rfl
      inactive := inactiveInv_of_active rfl }
  dsimp only at h
  split at h
  · cases h
  · next u hu =>
    cases h
    exact ((hwaiting.invIf (levelled := True)).sendExec hu).setResponse _

/-- The column "teardown" is the column "arm" with nothing pending on a block that is not active (R331). -/
theorem inv_exec_stop (hi : s.Inv) (h : exec .stop s = .next t) : t.Inv := by
  cases (exec_stop hi.owned).symm.trans h
  exact { hi.armed with
    connected := nofun
    fatal := fatalInv_of_clear rfl rfl rfl
    inactive := fun _ => ⟨rfl, rfl, rfl, rfl, rfl⟩
    flow := ⟨nofun, nofun, nofun⟩ }

theorem inv_exec_resetNcp (hi : s.Inv) (h : exec .resetNcp s = .next t) : t.Inv := by
  cases (exec_resetNcp hi.owned).symm.trans h
  exact hi.armed.setResponse _

theorem State.InvIf.payloadQueued {k : Nat} {fl : List Nat} {p : List Byte} (hcon : s.connected = true)
    (hfl : s.txFreeList = k :: fl) (hp : p.length ≤ s.cfg.bufSize) (h : s.InvIf levelled) :
    (s.payloadQueued k fl p).InvIf levelled := by
  obtain ⟨htx, hrx, htxLength, hrxLength⟩ := h.memory
  exact { h with
    sound := h.sound.payloadQueued p hfl
    memory := ⟨write_wf k _ htx, hrx, length_le_of_mem_write htxLength ((length_randomize p).trans_le hp),
      hrxLength⟩
    disconnected := disconnectedInv_of_connected hcon }

theorem inv_exec_send {p : List Byte} (hi : s.Inv) (h : exec (.send now space p) s = .next t) : t.Inv := by
  by_cases hf : s.fatalStatus = .none
  case neg => cases (exec_send_fatal hf rfl).symm.trans h; exact hi.setResponse _
  rcases Nat.lt_or_ge p.length s.cfg.minDataLen with hmin | hmin
  · cases (exec_send_tooShort hf hmin).symm.trans h; exact hi.setResponse _
  rcases Nat.lt_or_ge s.cfg.maxDataLen p.length with hmax | hmax
  · cases (exec_send_tooLong hf hmin hmax).symm.trans h; exact hi.setResponse _
  by_cases hcon : s.connected = true
  case neg =>
    cases (exec_send_notConnected hf hmin hmax (eq_false_of_ne_true hcon)).symm.trans h
    exact hi.setResponse _
  cases hfl : s.txFreeList with
  | nil => cases (exec_send_noTxSpace hf hmin hmax hcon hfl).symm.trans h; exact hi.setResponse _
  | cons k fl =>
    have hqueued := ((hi.invIf (levelled := True)).payloadQueued hcon hfl hmax).beginResponse
    rw [execSend_accepted s hf hmin hmax hcon hfl, outcome_next_iff, State.sendAccepted] at h
    split at h
    · cases h
    · next u hu =>
      cases h
      exact (hqueued.sendExec hu).setResponse _

theorem inv_execRxChunk {chunk : List Byte} (hi : s.Inv) (h : execRxChunk now space chunk s = .next t) : t.Inv := by
  refine hi.whenLive (fun hl u hu => ?_) h
  split at hu
  · cases hu
  · next v hv =>
    have hactive : (s.beginResponse.deframe chunk).2.active = true := hl.1
    exact ((hi.begun.deframe chunk).receiveAll hactive hv).sendExec hu

/-- An inactive block has received nothing (R331, R332). -/
theorem active_of_rxQueue_ne_nil (hi : s.Inv) (hq : s.rxQueue ≠ []) : s.active = true := by
  by_contra ha
  have hf : s.fatalStatus = .none := by_contra fun hset => ha (hi.fatal.1 hset).1
  have hcon : s.connected = false := eq_false_of_ne_true fun hcon => ha (hi.connected hcon).1
  obtain ⟨-, -, -, -, -, hempty⟩ := hi.disconnected hcon
  obtain ⟨-, -, hnone⟩ := hempty hf
  exact hq hnone

/-- The handle at the front of `rxQueue` has no other owner (R35). -/
theorem front_of_rxQueue {k : Nat} {q : List Nat} (hs : s.rxOwned) (hq : s.rxQueue = k :: q) :
    k ∉ s.rxFreeList ∧ k ∉ q := by
  have hnodup : (s.rxFreeList ++ k :: q).Nodup := hq ▸ hs.nodup_iff.2 List.nodup_range
  obtain ⟨-, hqueue, hdisjoint⟩ := List.nodup_append.1 hnodup
  exact ⟨fun hfl => hdisjoint k hfl k List.mem_cons_self rfl, (List.nodup_cons.1 hqueue).1⟩

/-- What RX_POP delivers goes back to the free-list, and not-ready is evaluated at the free count that leaves (R177). -/
theorem inv_exec_rxPop (hi : s.Inv) (h : exec .rxPop s = .next t) : t.Inv := by
  obtain ⟨hnil, -⟩ := rxPopDeliversOldest
  cases hq : s.rxQueue with
  | nil => cases (hnil s hq).symm.trans h; exact hi.setResponse _
  | cons k q =>
    have hactive := active_of_rxQueue_ne_nil hi (by simp [hq])
    have howned := owned_of_holdings_eq (holdings_exec .rxPop h) hi.owned
    obtain ⟨hfl, hrest⟩ := front_of_rxQueue hi.owned.2 hq
    cases (exec_rxPop_cons hq hfl hrest).symm.trans h
    have hlength : (s.rxFreeList ++ [k]).length = s.rxFreeList.length + 1 := List.length_append
    refine { hi with
      owned := howned
      disconnected := fun hdis => ?_
      inactive := inactiveInv_of_active hactive
      flow := flowInv_of_evaluated hi.flow ?_ rfl }
    · have hcon : s.connected = false := hdis
      obtain ⟨hack, hnak, hre, hackTimer, hnrTimer, hempty⟩ := hi.disconnected hcon
      refine ⟨by simp [State.flowColumn, hack, hcon], hnak, hre, hackTimer, ?_, fun hclear => ?_⟩
      · dsimp only [State.flowColumn]
        split
        · rfl
        · exact hnrTimer
      · exact absurd ((hempty hclear).2.2.symm.trans hq) (List.cons_ne_nil k q).symm
    · exact congrArg (notReadyAt · s.notReady) hlength.symm

theorem inv_execData {f : Seq} {r : Bool} {a : Seq} {p : List Byte} (hi : s.Inv)
    (h : execData now f r a p s = .next t) : t.Inv := by
  refine hi.whenLive (fun hl u hu => ?_) h
  split at hu
  · next hlength => exact (hi.begun.recvData (length_le_bufSize_of_lengthOk hlength) hu).inv
  · cases hu
    exact (hi.begun.frameRejected _ hl.1).inv

theorem inv_exec {i : Instr} (hi : s.Inv) (h : exec i s = .next t) : t.Inv := by
  cases i with
  | start now space => exact inv_execStart hi h
  | stop => exact inv_exec_stop hi h
  | resetNcp => exact inv_exec_resetNcp hi h
  | send now space p => exact inv_exec_send hi h
  | rxChunk now space chunk => exact inv_execRxChunk hi h
  | tick now space => exact hi.whenLive (fun _ u hu => hi.begun.sendExec hu) h
  | rxPop => exact inv_exec_rxPop hi h
  | isConnected => cases h; exact hi.setResponse _
  | isIdle => cases h; exact hi.setResponse _
  | countersRead => cases h; exact hi.setResponse _
  | countersClear => cases h; exact { hi with }
  | data now f r a p => exact inv_execData hi h
  | ack now p n a => exact hi.whenLive (fun _ u hu => (hi.begun.recvAck p hu).inv) h
  | nak now p n a => exact hi.whenLive (fun _ u hu => (hi.begun.recvNak p hu).inv) h
  | rst => exact hi.whenLive (fun _ u hu => by cases hu; exact hi.begun.inv) h
  | rstack v r => exact hi.whenLive (fun hl u hu => by cases hu; exact (hi.begun.recvRstack v r hl).inv) h
  | error v e => exact hi.whenLive (fun hl u hu => by cases hu; exact (hi.begun.recvError v e hl.1).inv) h

theorem inv_execRejected {e : DecodeError} (hi : s.Inv) (h : execRejected e s = .next t) : t.Inv := by
  cases e with
  | reservedOpcode op => cases h; exact hi.setResponse _
  | frame r =>
    exact hi.whenLive (fun hl u hu => by cases hu; exact (hi.begun.frameRejected r hl.1).inv) h

theorem inv_step (hi : s.Inv) (h : step s = .next t) : t.Inv := by
  rw [step, if_pos hi.valid] at h
  cases hfetch : s.fetch with
  | none => rw [hfetch] at h; cases h; exact hi
  | some p =>
    obtain ⟨i, u⟩ := p
    have hu := inv_of_fetch hi hfetch
    rw [hfetch] at h
    dsimp only at h
    split at h
    · exact inv_exec hu h
    · exact inv_execRejected hu h

/-! ### Power-on (R330) -/

theorem inv_powerOn {cfg : Config} (hv : cfg.valid = true) : (State.powerOn cfg).Inv where
  valid := hv
  owned := stepKeepsBufferOwnership.1 cfg
  sequence := nofun
  send := sendInv_of_idle rfl rfl rfl
  memory := ⟨⟨.nil, nofun⟩, ⟨.nil, nofun⟩, nofun, nofun⟩
  deframer := Deframer.sound_clear cfg.rawMax
  timer := timerInv_of_initial rfl rfl
  connected := nofun
  disconnected := fun _ => ⟨rfl, rfl, rfl, rfl, rfl, fun _ => ⟨rfl, rfl, rfl⟩⟩
  fatal := fatalInv_of_clear rfl rfl rfl
  inactive := fun _ => ⟨rfl, rfl, rfl, rfl, rfl⟩
  flow := ⟨nofun, nofun, nofun⟩

end

/-! ### The obligations -/

/-- Settles O21: every instruction keeps the invariant, the tick through the weaker one of its loop. -/
theorem stepKeepsInvariant : Obligations.StepKeepsInvariant := fun _ _ hi h => inv_step hi h

/-- Settles O22: the configuration of `State.reset` is valid, so that it is one of these. -/
theorem powerOnMeetsInvariant : Obligations.PowerOnMeetsInvariant :=
  ⟨fun _ hv => inv_powerOn hv, inv_powerOn (by decide)⟩

end Sys2Proof.Machine
end

section
/-!
SUPPORT. The byte codec and the step on their own (00_scope.md §4, 20_memory.md §1, 30_encoding.md §1 to §2b,
40_codec.md §2, 70_reset_and_hazards.md §1): words decoded, the randomizer, the buffer arena, and what the step refuses.
-/

namespace Sys2Proof.Machine

/-! ### Refusals (R9, 93 U12) -/

/-- `Config.valid` is the conjunction of the constraints of R8 and R9. -/
theorem valid_iff (c : Config) : c.valid = true ↔ 1 ≤ c.txK ∧ c.txK ≤ 7 ∧ 1 ≤ c.minDataLen ∧
    c.minDataLen ≤ c.maxDataLen ∧ c.maxDataLen + 3 ≤ c.maxFrameLen ∧ 1 ≤ c.txPoolSize ∧ 1 ≤ c.rxPoolSize ∧
    1 ≤ c.nrRefresh := by
  simp only [Config.valid, Bool.and_eq_true, decide_eq_true_eq, and_assoc]

theorem outcome_ne_refused (r : Result) (e : Refusal) : r.outcome ≠ .refused e := by
  cases r <;> nofun

/-- Every instruction has a meaning in the model. -/
theorem exec_ne_refused (i : Instr) (s : State) (e : Refusal) : exec i s ≠ .refused e := by
  cases i with
  | isConnected | isIdle | countersRead | countersClear => nofun
  | _ => exact outcome_ne_refused _ e

theorem step_ne_refused {s : State} (hv : s.cfg.valid = true) (e : Refusal) : step s ≠ .refused e := by
  rw [step, if_pos hv]
  split
  · nofun
  · split
    · exact exec_ne_refused _ _ e
    · exact outcome_ne_refused _ e

/-! ### Frames written out (R80 to R86) -/

/-- The raw frame that a frame has under the test configuration decodes to it. -/
theorem decode_rawFrame_tc {f : Frame} {raw : List Byte} (now : Time)
    (hw : (Instr.ofFrame now f).wellFormed Config.tc = true) (hraw : rawOf f = raw) :
    decode Config.tc (.rawFrame raw false now) = .ok (Instr.ofFrame now f) :=
  hraw ▸ decode_toInput (by decide) hw

/-! ### The randomizer (R116 to R118) -/

theorem randomizeFrom_randomizeFrom (r : Byte) (d : List Byte) : randomizeFrom r (randomizeFrom r d) = d := by
  induction d generalizing r with
  | nil => rfl
  | cons b bs ih => rw [randomizeFrom, randomizeFrom, ih, BitVec.xor_assoc, BitVec.xor_self, BitVec.xor_zero]

theorem lfsrAfter_eq_iterate (n : Nat) : lfsrAfter n = lfsrNext^[n] lfsrSeed := by
  induction n with
  | zero => rfl
  | succ n ih => rw [Function.iterate_succ_apply', ← ih, lfsrAfter]

/-- A shift that drops a set bit meets the top bit of the polynomial, so only 0 goes to 0. -/
theorem lfsrNext_ne_zero {r : Byte} (h : r ≠ 0) : lfsrNext r ≠ 0 := by
  revert r
  decide

theorem lfsrAfter_ne_zero (n : Nat) : lfsrAfter n ≠ 0 := by
  induction n with
  | zero => decide
  | succ n ih => exact lfsrNext_ne_zero ih

/-- The seed comes back after `n` steps. -/
theorem isPeriodicPt_lfsrNext_iff (n : Nat) : Function.IsPeriodicPt lfsrNext n lfsrSeed ↔ lfsrAfter n = lfsrSeed := by
  rw [lfsrAfter_eq_iterate]
  rfl

theorem lfsrAfter_255 : lfsrAfter 255 = lfsrSeed := by decide +kernel

/-- The seed does not come back after 255 divided by one of its primes 3, 5 and 17. -/
theorem lfsrAfter_maximal_divisors :
    lfsrAfter 85 ≠ lfsrSeed ∧ lfsrAfter 51 ≠ lfsrSeed ∧ lfsrAfter 15 ≠ lfsrSeed := by decide +kernel

theorem dvd_maximal_divisor : ∀ g ∈ Nat.divisors 255, g ≠ 255 → g ∣ 85 ∨ g ∣ 51 ∨ g ∣ 15 := by decide

/-- A period of the seed shorter than 255 would give one that divides 255, and so one of its maximal divisors. -/
theorem lfsrAfter_ne_seed {n : Nat} (hpos : 0 < n) (hn : n < 255) : lfsrAfter n ≠ lfsrSeed := by
  intro hback
  have hperiod := (isPeriodicPt_lfsrNext_iff n).2 hback
  have hgcd := hperiod.gcd ((isPeriodicPt_lfsrNext_iff 255).2 lfsrAfter_255)
  have hproper : n.gcd 255 ≠ 255 := ((Nat.gcd_le_left 255 hpos).trans_lt hn).ne
  have hmem : n.gcd 255 ∈ Nat.divisors 255 := Nat.mem_divisors.2 ⟨Nat.gcd_dvd_right n 255, by decide⟩
  obtain ⟨h85, h51, h15⟩ := lfsrAfter_maximal_divisors
  rcases dvd_maximal_divisor _ hmem hproper with hd | hd | hd
  · exact h85 ((isPeriodicPt_lfsrNext_iff 85).1 (hgcd.trans_dvd hd))
  · exact h51 ((isPeriodicPt_lfsrNext_iff 51).1 (hgcd.trans_dvd hd))
  · exact h15 ((isPeriodicPt_lfsrNext_iff 15).1 (hgcd.trans_dvd hd))

/-! ### The buffer arena (R62) -/

/-- A write leaves every other buffer alone. -/
theorem read_write_of_ne (m : Memory) {h k : Nat} (v : List Byte) (hk : k ≠ h) : (m.write h v).read k = m.read k := by
  have hother (m : Memory) : Memory.read ((h, v) :: m) k = Memory.read m k := if_neg (Ne.symm hk)
  induction m with
  | nil =>
    unfold Memory.write
    split
    · rfl
    · exact hother []
  | cons e m ih =>
    obtain ⟨j, w⟩ := e
    unfold Memory.write
    split
    · split
      · rfl
      · exact hother _
    · split
      · next heq =>
        have hremoved : Memory.read ((j, w) :: m) k = Memory.read m k := if_neg (heq ▸ Ne.symm hk)
        rw [hremoved]
        split
        · rfl
        · exact hother m
      · simp only [Memory.read, ih]

/-! ### The obligations -/

/-- Settles O3: no instruction is refused, so the configuration alone decides. -/
theorem stepWaitsOrRefuses : Obligations.StepWaitsOrRefuses := by
  refine ⟨fun s hv hinput => ?_, fun s => ?_⟩
  · simp only [step, if_pos hv, State.fetch, hinput]
  · rw [← valid_iff]
    constructor
    · rintro ⟨r, hr⟩ hv
      exact step_ne_refused hv r hr
    · intro hv
      exact ⟨.badConfiguration, if_neg hv⟩

/-- Settles O5: the commands by their opcodes, each frame by its raw frame written out and the round trip. -/
theorem sampleWordsDecode : Obligations.SampleWordsDecode := by
  refine ⟨rfl, rfl, rfl, ?ack, ?nak, ?data, ?rst, ?rstack, ?error⟩
  case ack => exact decode_rawFrame_tc (f := .ack false false 1) 300 rfl (by decide)
  case nak => exact decode_rawFrame_tc (f := .nak false false 0) 250 rfl (by decide)
  case data => exact decode_rawFrame_tc (f := .data 1 false 1 [0x42, 0x21, 0xA8, 0x50]) 5 rfl (by decide +kernel)
  case rst => exact decode_rawFrame_tc (f := .rst) 0 rfl (by decide)
  case rstack => exact decode_rawFrame_tc (f := .rstack 2 11) 100 rfl rawFrameOf_rstack
  case error => exact decode_rawFrame_tc (f := .error 2 0x51) 50 rfl (by decide +kernel)

/-- Settles O9, which is `frameType_eq`. -/
theorem frameTypeOfEveryControlByte : Obligations.FrameTypeOfEveryControlByte := frameType_eq

/-- Settles O12: 255 is a period of the seed and none of its maximal divisors is one. -/
theorem lfsrPeriodIs255 : Obligations.LfsrPeriodIs255 :=
  ⟨lfsrAfter_255, fun n _ => lfsrAfter_ne_zero n, fun _ hn hpos => lfsrAfter_ne_seed hpos hn⟩

/-- Settles O13: both passes meet each byte with the same register. -/
theorem randomizeIsSelfInverse : Obligations.RandomizeIsSelfInverse := randomizeFrom_randomizeFrom lfsrSeed

/-- Settles O20: the written buffer by the canonical form, the others in every form. -/
theorem bufferReadAfterWrite : Obligations.BufferReadAfterWrite :=
  fun m h v hm => ⟨write_wf h v hm, read_write_self h v hm, fun _ hk p =>
    congrArg (·[p]?) (read_write_of_ne m v hk)⟩

end Sys2Proof.Machine
end

section
/-!
SUPPORT. Where a session begins and where it ends (10_state.md §3 and §4, 46_receive.md §3 and §4, 60_exceptions.md
R306): only the receive machine connects, and outside the resets only a fatal error disconnects. One lemma for each
operation that a command of a block without a session, or the tick, is made of.
-/

namespace Sys2Proof.Machine

section

variable {s t u : State} {now : Time} {space : Space}

/-! ### The receive machine without a session -/

/-- From `s`, a block without a session, to `t` the RST stayed out or not, and a session began only where it was out and
`awaited` holds of what was received (R269, R270). -/
def State.JoinsTo (awaited : Prop) (s t : State) : Prop :=
  t.cfg = s.cfg ∧ t.rstSent = s.rstSent ∧ (t.connected = true → s.rstSent = true ∧ awaited)

theorem joinsTo_of_not_connected {awaited : Prop} (hcfg : t.cfg = s.cfg) (hsent : t.rstSent = s.rstSent)
    (hcon : t.connected = false) : s.JoinsTo awaited t :=
  ⟨hcfg, hsent, fun h => absurd (hcon.symm.trans h) Bool.false_ne_true⟩

theorem joinsTo_raiseFatal {awaited : Prop} (status : FatalStatus) (code : FatalCode) (info : Byte)
    (hcon : s.connected = false) : s.JoinsTo awaited (s.raiseFatal status code info) := by
  by_cases h : s.fatalStatus = .none
  · rw [raiseFatal_clear s status code info h]
    exact joinsTo_of_not_connected rfl rfl rfl
  · rw [raiseFatal_latched s status code info h]
    exact joinsTo_of_not_connected rfl rfl hcon

/-- Without a session a rejected raw frame is counted, or it is fatal (R251, R254). -/
theorem joinsTo_frameRejected {awaited : Prop} (r : FrameReject) (hcon : s.connected = false) :
    s.JoinsTo awaited (s.frameRejected r) := by
  have hcounted (c : State) (f : List Byte) (hcfg : c.cfg = s.cfg) (hsent : c.rstSent = s.rstSent)
      (hdis : c.connected = s.connected) : s.JoinsTo awaited (c.rejIfData f) := by
    rw [rejIfData_eq]
    exact joinsTo_of_not_connected hcfg hsent (hdis.trans hcon)
  cases r with
  | badCrc f => exact hcounted s.countCrcError f rfl rfl rfl
  | commError f => exact hcounted s.countCommError f rfl rfl rfl
  | tooShort f => exact hcounted s.countTooShort f rfl rfl rfl
  | tooLong f => exact hcounted s.countTooLong f rfl rfl rfl
  | illegal c d => exact hcounted s.countBadFrame (c :: d) rfl rfl rfl
  | xonXoff => exact joinsTo_raiseFatal _ _ _ hcon
  | cancelled => exact joinsTo_of_not_connected rfl rfl hcon
  | empty => exact joinsTo_of_not_connected rfl rfl hcon

/-- Only the RSTACK that answers an RST connects (R268, R269). -/
theorem joinsTo_recvRstack (v r : Byte) (hcon : s.connected = false) :
    s.JoinsTo (v = 2#8 ∧ r = 0x0B#8) (s.recvRstack v r) := by
  rw [State.recvRstack, if_neg (by simp [hcon])]
  split
  · exact joinsTo_raiseFatal _ _ _ hcon
  next hversion =>
  split
  · next hreply =>
    obtain ⟨hreason, hsent⟩ := hreply
    rw [connect_eq]
    exact ⟨rfl, rfl, fun _ => ⟨hsent, not_not.1 hversion, hreason⟩⟩
  · exact joinsTo_of_not_connected rfl rfl hcon

theorem joinsTo_recvFrame {f : Frame} (hcon : s.connected = false) (h : s.recvFrame now f = .ok t) :
    s.JoinsTo (f = .rstack 2#8 0x0B#8) t := by
  cases f with
  | data n r a d =>
    simp only [State.recvFrame, State.recvData, hcon] at h
    cases h
    exact joinsTo_of_not_connected rfl rfl hcon
  | ack p n a =>
    simp only [State.recvFrame, State.recvAck, hcon] at h
    cases h
    exact joinsTo_of_not_connected rfl rfl hcon
  | nak p n a =>
    simp only [State.recvFrame, State.recvNak, hcon] at h
    cases h
    exact joinsTo_of_not_connected rfl rfl hcon
  | rst => cases h; exact joinsTo_of_not_connected rfl rfl hcon
  | rstack v r =>
    cases h
    obtain ⟨hcfg, hsent, hjoin⟩ := joinsTo_recvRstack v r hcon
    refine ⟨hcfg, hsent, fun h => ?_⟩
    obtain ⟨hout, rfl, rfl⟩ := hjoin h
    exact ⟨hout, rfl⟩
  | error v e => cases h; exact joinsTo_raiseFatal _ _ _ hcon

theorem joinsTo_receiveFrame {raw : List Byte} {ovf : Bool} (hcon : s.connected = false)
    (h : s.receiveFrame raw ovf now = .ok t) :
    s.JoinsTo (decodeRaw s.cfg raw ovf = .ok (.rstack 2#8 0x0B#8)) t := by
  unfold State.receiveFrame at h
  split at h
  · next f hf =>
    obtain ⟨hcfg, hsent, hjoin⟩ := joinsTo_recvFrame hcon h
    exact ⟨hcfg, hsent, fun ht => ⟨(hjoin ht).1, (hjoin ht).2 ▸ hf⟩⟩
  · cases h
    exact joinsTo_frameRejected _ hcon

/-- A session that a chunk begins, it begins by one of its raw frames. -/
theorem rstack_of_receiveAll {frames : List (List Byte × Bool)} (hcon : s.connected = false)
    (h : s.receiveAll now frames = .ok t) (ht : t.connected = true) :
    s.rstSent = true ∧ ∃ raw ∈ frames, decodeRaw s.cfg raw.1 raw.2 = .ok (.rstack 2#8 0x0B#8) := by
  induction frames generalizing s with
  | nil => cases h; exact absurd (hcon.symm.trans ht) Bool.false_ne_true
  | cons raw frames ih =>
    simp only [State.receiveAll] at h
    split at h
    · cases h; exact absurd (hcon.symm.trans ht) Bool.false_ne_true
    split at h
    · cases h
    next u hu =>
    obtain ⟨hcfg, hsent, hjoin⟩ := joinsTo_receiveFrame hcon hu
    by_cases hjoined : u.connected = true
    · exact ⟨(hjoin hjoined).1, raw, List.mem_cons_self, (hjoin hjoined).2⟩
    · obtain ⟨hout, raw', hmem, hdecode⟩ := ih (eq_false_of_ne_true hjoined) h
      exact ⟨hsent ▸ hout, raw', List.mem_cons_of_mem _ hmem, hcfg ▸ hdecode⟩

/-! ### The tick -/

/-- From `s` to `t` the session, or that there is none, was kept, or a fatal error ended it. -/
def State.StaysTo (s t : State) : Prop :=
  t.connected = s.connected ∨ (s.fatalStatus = .none ∧ t.connected = false ∧ t.fatalStatus ≠ .none)

theorem staysTo_raiseFatal {status : FatalStatus} (hstatus : status ≠ .none) (code : FatalCode) (info : Byte)
    (s : State) : s.StaysTo (s.raiseFatal status code info) := by
  by_cases h : s.fatalStatus = .none
  · rw [raiseFatal_clear s status code info h]
    exact .inr ⟨h, rfl, hstatus⟩
  · rw [raiseFatal_latched s status code info h]
    exact .inl rfl

theorem staysTo_startTimeoutCheck (now : Time) (s : State) : s.StaysTo (s.startTimeoutCheck now) := by
  unfold State.startTimeoutCheck
  split
  · exact staysTo_raiseFatal (by decide) .resetFail 0 s
  · exact .inl rfl

theorem staysTo_ackTimeoutCheck (now : Time) (s : State) : s.StaysTo (s.ackTimeoutCheck now) := by
  unfold State.ackTimeoutCheck
  split
  · split
    · exact staysTo_raiseFatal (by decide) .timeouts 0 s.countTimeout
    · exact .inl rfl
  · exact .inl rfl

theorem connected_nrTimerCheck (now : Time) (s : State) : (s.nrTimerCheck now).connected = s.connected := by
  unfold State.nrTimerCheck
  split <;> rfl

theorem connected_emitNext (s : State) : s.emitNext.connected = s.connected := by
  unfold State.emitNext
  split <;> rfl

theorem connected_select {x : Selected} (hx : s.select now = .ok x) :
    x.Leaves fun t => t.connected = s.connected := by
  refine Selected.leaves_of_select hx rfl rfl ?_ (fun _ _ _ _ => rfl) (fun _ _ _ _ _ _ => rfl)
  rw [pickAck_eq]

theorem connected_sendLoop {n : Nat} (h : s.sendLoop now n = .ok t) : t.connected = s.connected := by
  refine sendLoop_preserves (fun x => x.connected = s.connected) (fun x hx _ => (connected_emitNext x).trans hx)
    (fun x y hx _ hy => ?cancel) (fun x y hx _ hy => ?pick) rfl h
  case cancel => exact (connected_select hy).trans hx
  case pick =>
    obtain ⟨hcon, hne⟩ := connected_select hy
    exact ⟨hcon.trans hx, hne⟩

theorem connected_sendFrames (h : s.sendFrames now space = .ok t) : t.connected = s.connected := by
  obtain ⟨x, hx, rfl⟩ := sendFrames_ok_iff.1 h
  have hloop := connected_sendLoop hx
  exact hloop

/-- A check that leaves the latch clear has kept the session. -/
theorem State.StaysTo.connected_of_clear (h : s.StaysTo t) (hf : t.fatalStatus = .none) : t.connected = s.connected :=
  h.resolve_right fun hended => hended.2.2 hf

theorem staysTo_sendExec (h : s.sendExec now space = .ok t) : s.StaysTo t := by
  by_cases hl : s.live
  case neg => cases (sendExec_notLive s hl).symm.trans h; exact .inl rfl
  have hstart := staysTo_startTimeoutCheck now s
  have hack := staysTo_ackTimeoutCheck now (s.startTimeoutCheck now)
  rw [State.sendExec, if_neg (by simp [hl.1, hl.2])] at h
  dsimp only at h
  split at h
  · cases h; exact hstart
  next hclear =>
  have hkept := hstart.connected_of_clear (not_not.1 hclear)
  split at h
  · cases h
    exact hack.imp (·.trans hkept) fun hended => ⟨hl.2, hended.2⟩
  · next hclear' =>
    have hkept' := hack.connected_of_clear (not_not.1 hclear')
    exact .inl ((connected_sendFrames h).trans ((connected_nrTimerCheck now _).trans (hkept'.trans hkept)))

/-- A session began, where the RST was out, by what was `awaited` (R269, R270). -/
def State.BeginsBy (awaited : Prop) (s t : State) : Prop := t.connected = true ∧ s.rstSent = true ∧ awaited

/-- The tick of an RX_CHUNK does nothing after a fatal frame. -/
theorem State.StaysTo.sendExec (hst : s.StaysTo t) (hf : s.fatalStatus = .none) (h : t.sendExec now space = .ok u) :
    s.StaysTo u := by
  by_cases hl : t.live
  · exact (staysTo_sendExec h).imp (·.trans (hst.connected_of_clear hl.2)) fun hended => ⟨hf, hended.2⟩
  · cases (sendExec_notLive t hl).symm.trans h
    exact hst

/-- What is received in a session keeps it or ends it by a fatal error; without a session it begins one by what is
`awaited`, or there is none afterwards. -/
theorem staysTo_or_awaited {awaited : Prop} (hf : s.fatalStatus = .none)
    (hin : s.connected = true → s.ReceivesTo t) (hout : s.connected = false → s.JoinsTo awaited t) :
    s.StaysTo t ∨ s.BeginsBy awaited t := by
  cases ht : t.connected with
  | true =>
    cases hcon : s.connected with
    | true => exact .inl (.inl (ht.trans hcon.symm))
    | false => exact .inr ⟨ht, (hout hcon).2.2 ht⟩
  | false =>
    cases hcon : s.connected with
    | true =>
      have hfatal := ((hin hcon).2 (.inl hcon)).resolve_left (by simp [ht])
      exact .inl (.inr ⟨hf, ht, hfatal⟩)
    | false => exact .inl (.inl (ht.trans hcon.symm))

theorem not_beginsBy_false : ¬ s.BeginsBy False t := fun h => h.2.2

theorem session_recvFrame {f : Frame} (hf : s.fatalStatus = .none) (h : s.recvFrame now f = .ok t) :
    s.StaysTo t ∨ s.BeginsBy (f = .rstack 2#8 0x0B#8) t :=
  staysTo_or_awaited hf (fun hcon => receivesTo_recvFrame hcon h) (fun hcon => joinsTo_recvFrame hcon h)

theorem staysTo_frameRejected (r : FrameReject) (hf : s.fatalStatus = .none) : s.StaysTo (s.frameRejected r) :=
  (staysTo_or_awaited hf (fun _ => receivesTo_frameRejected r s) (joinsTo_frameRejected r)).resolve_right
    not_beginsBy_false

/-! ### The instructions -/

/-- What the gate lets through runs on a live block; the rest keeps the session, or that there is none. -/
theorem session_whenLive {body : State → Result} {awaited : Prop}
    (hbody : s.fatalStatus = .none → ∀ u, body s.beginResponse = .ok u →
      s.beginResponse.StaysTo u ∨ s.beginResponse.BeginsBy awaited u)
    (h : (s.beginResponse.whenLive body).outcome = .next t) :
    s.StaysTo t ∨ (s.live ∧ s.BeginsBy awaited t) := by
  rw [outcome_next_iff] at h
  by_cases ha : s.active = true
  case neg => cases (whenLive_inactive s body (eq_false_of_ne_true ha)).symm.trans h; exact .inl (.inl rfl)
  by_cases hf : s.fatalStatus = .none
  case neg => cases (whenLive_fatal s body ha hf).symm.trans h; exact .inl (.inl rfl)
  rw [whenLive_live s body ⟨ha, hf⟩] at h
  split at h
  · cases h
  · next u hu => cases h; exact (hbody hf u hu).imp_right fun hbegin => ⟨⟨ha, hf⟩, hbegin⟩

/-- The same for a body that begins no session. -/
theorem staysTo_whenLive {body : State → Result}
    (hbody : s.fatalStatus = .none → ∀ u, body s.beginResponse = .ok u → s.beginResponse.StaysTo u)
    (h : (s.beginResponse.whenLive body).outcome = .next t) : s.StaysTo t :=
  (session_whenLive (awaited := False) (fun hf u hu => .inl (hbody hf u hu)) h).resolve_right fun hbegin =>
    not_beginsBy_false hbegin.2

theorem staysTo_recvFrame_whenLive {f : Frame} (hne : f ≠ .rstack 2#8 0x0B#8)
    (h : (s.beginResponse.whenLive (State.recvFrame now f)).outcome = .next t) : s.StaysTo t :=
  staysTo_whenLive (fun hf _ hu =>
    (session_recvFrame (s := s.beginResponse) hf hu).resolve_right fun ⟨_, _, heq⟩ => hne heq) h

theorem connected_execStart (h : execStart now space s = .next t) : t.connected = false := by
  rw [execStart, outcome_next_iff] at h
  split at h
  · cases h
  next s₁ h₁ =>
  have hcon : s₁.connected = false := by rw [arm_ok h₁]; rfl
  split at h
  · cases h
  · next s₂ h₂ =>
    cases h
    exact (staysTo_sendExec h₂).elim (·.trans hcon) (·.2.1)

theorem connected_execStop (h : execStop s = .next t) : t.connected = false := by
  rw [execStop, outcome_next_iff] at h
  split at h
  · cases h
  next s₁ h₁ =>
  cases h
  obtain rfl := teardown_ok h₁
  rfl

theorem connected_execResetNcp (h : execResetNcp s = .next t) : t.connected = false := by
  rw [execResetNcp, outcome_next_iff] at h
  split at h
  · cases h
  next s₁ h₁ =>
  cases h
  obtain rfl := arm_ok h₁
  rfl

theorem staysTo_execSend {p : List Byte} (h : execSend now space p s = .next t) : s.StaysTo t := by
  rw [execSend, outcome_next_iff] at h
  dsimp only at h
  split at h
  · cases h; exact .inl rfl
  split at h
  · cases h; exact .inl rfl
  split at h
  · cases h; exact .inl rfl
  split at h
  · cases h; exact .inl rfl
  split at h
  · cases h; exact .inl rfl
  rename_i k s₁ hk
  unfold State.sendAccepted at h
  split at h
  · cases h
  · rename_i s₂ h₂
    cases h
    obtain ⟨fl, rfl⟩ := txAllocate_some hk
    have htick := staysTo_sendExec h₂
    exact htick

/-- An RX_CHUNK begins a session by one of its raw frames; its tick can only end one. -/
theorem session_execRxChunk {chunk : List Byte} (h : execRxChunk now space chunk s = .next t) :
    s.StaysTo t ∨ (s.live ∧
      s.BeginsBy (∃ raw ∈ (s.deframe chunk).1, decodeRaw s.cfg raw.1 raw.2 = .ok (.rstack 2#8 0x0B#8)) t) := by
  refine session_whenLive (fun hf u hu => ?_) h
  split at hu
  · cases hu
  next v hv =>
  have htick := staysTo_sendExec hu
  cases hcon : s.connected with
  | true =>
    have hreceived : s.beginResponse.ReceivesTo v :=
      receivesTo_receiveAll (s := (s.beginResponse.deframe chunk).2) hcon hv
    have hstays := (staysTo_or_awaited (s := s.beginResponse) hf (fun _ => hreceived)
      fun hdis => absurd (hcon.symm.trans hdis).symm Bool.false_ne_true).resolve_right not_beginsBy_false
    exact .inl (hstays.sendExec hf hu)
  | false =>
    cases hend : u.connected with
    | false => exact .inl (.inl (hend.trans hcon.symm))
    | true =>
      have hjoined : v.connected = true :=
        htick.elim (·.symm.trans hend) fun hended => absurd (hended.2.1.symm.trans hend) Bool.false_ne_true
      exact .inr ⟨hend, rstack_of_receiveAll (s := (s.beginResponse.deframe chunk).2) hcon hv hjoined⟩

theorem connected_execRxPop (h : execRxPop s = .next t) : t.connected = s.connected := by
  rw [execRxPop, outcome_next_iff] at h
  dsimp only at h
  split at h
  · cases h; rfl
  split at h
  · cases h
  · rename_i s₁ h₁
    obtain ⟨-, -, rfl⟩ := (rxFree_ok_iff _ _ s₁).1 h₁
    cases h
    rw [nrEval_eq]
    rfl

theorem staysTo_execData {f : Seq} {r : Bool} {a : Seq} {p : List Byte} (h : execData now f r a p s = .next t) :
    s.StaysTo t := by
  refine staysTo_whenLive (fun hf u hu => ?_) h
  split at hu
  · exact (session_recvFrame (s := s.beginResponse) (f := .data f r a p) hf hu).resolve_right nofun
  · cases hu
    exact staysTo_frameRejected (s := s.beginResponse) _ hf

/-- What an instruction does to the session: a reset ends it, an awaited RSTACK begins one, and any other instruction
keeps it, keeps that there is none, or ends it by a fatal error. -/
theorem session_exec {i : Instr} (h : exec i s = .next t) :
    (((∃ now space, i = .start now space) ∨ i = .stop ∨ i = .resetNcp) ∧ t.connected = false) ∨ s.StaysTo t ∨
      (s.live ∧ s.BeginsBy ((∃ now space chunk, i = .rxChunk now space chunk ∧
          ∃ raw ∈ (s.deframe chunk).1, decodeRaw s.cfg raw.1 raw.2 = .ok (.rstack 2#8 0x0B#8)) ∨
        i = .rstack 2#8 0x0B#8) t) := by
  cases i with
  | start now space => exact .inl ⟨.inl ⟨now, space, rfl⟩, connected_execStart h⟩
  | stop => exact .inl ⟨.inr (.inl rfl), connected_execStop h⟩
  | resetNcp => exact .inl ⟨.inr (.inr rfl), connected_execResetNcp h⟩
  | send now space p => exact .inr (.inl (staysTo_execSend h))
  | rxChunk now space chunk =>
    exact .inr ((session_execRxChunk h).imp_right fun ⟨hl, ht, hsent, hraw⟩ =>
      ⟨hl, ht, hsent, .inl ⟨now, space, chunk, rfl, hraw⟩⟩)
  | tick now space => exact .inr (.inl (staysTo_whenLive (fun _ u hu => staysTo_sendExec hu) h))
  | rxPop => exact .inr (.inl (.inl (connected_execRxPop h)))
  | isConnected => cases h; exact .inr (.inl (.inl rfl))
  | isIdle => cases h; exact .inr (.inl (.inl rfl))
  | countersRead => cases h; exact .inr (.inl (.inl rfl))
  | countersClear => cases h; exact .inr (.inl (.inl rfl))
  | data now f r a p => exact .inr (.inl (staysTo_execData h))
  | ack now p n a => exact .inr (.inl (staysTo_recvFrame_whenLive (now := now) (f := .ack p n a) nofun h))
  | nak now p n a => exact .inr (.inl (staysTo_recvFrame_whenLive (now := now) (f := .nak p n a) nofun h))
  | rst => exact .inr (.inl (staysTo_recvFrame_whenLive (now := 0) (f := .rst) nofun h))
  | rstack v r =>
    exact .inr ((session_whenLive (fun hf u hu => session_recvFrame (s := s.beginResponse) (now := 0)
      (f := .rstack v r) hf hu) h).imp_right fun ⟨hl, ht, hsent, hf⟩ => ⟨hl, ht, hsent, .inr (by cases hf; rfl)⟩)
  | error v e => exact .inr (.inl (staysTo_recvFrame_whenLive (now := 0) (f := .error v e) nofun h))

end

/-! ### The obligation -/

/-- Settles O28: by what an instruction can do to the session (`session_exec`). -/
theorem sessionsBeginAndEndByRule : Obligations.SessionsBeginAndEndByRule := by
  refine ⟨fun s t i hcon h ht => ?_, fun s t i hcon h ht => ?_⟩
  · rcases session_exec h with ⟨-, hreset⟩ | (hkept | ⟨-, hended, -⟩) | hbegin
    · exact absurd (hreset.symm.trans ht) Bool.false_ne_true
    · exact absurd (hcon.symm.trans (hkept.symm.trans ht)) Bool.false_ne_true
    · exact absurd (hended.symm.trans ht) Bool.false_ne_true
    · obtain ⟨hl, -, hawaited⟩ := hbegin
      exact ⟨hl, hawaited⟩
  · rcases session_exec h with ⟨hstart | hstop | hreset, -⟩ | (hkept | ⟨hclear, -, hfatal⟩) | ⟨-, hjoined, -⟩
    · exact .inl hstart
    · exact .inr (.inl hstop)
    · exact .inr (.inr (.inl hreset))
    · exact absurd (ht.symm.trans (hkept.trans hcon)) Bool.false_ne_true
    · exact .inr (.inr (.inr ⟨hclear, hfatal⟩))
    · exact absurd (ht.symm.trans hjoined) Bool.false_ne_true

end Sys2Proof.Machine
end
